-- ==== Sys2Proof/Word.lean ====
section
/-! DEFINITION. The words of the block: 32-bit interface words and FLT data (00_scope.md R10-R12). -/

namespace Sys2Proof

/-- An unsigned 32-bit word: CMD, IARG, STATUS, a table id (10_state.md R32, R48). -/
abbrev U32 := BitVec 32

/-- One FLT datum as its bit pattern. A binary64 datum fills the 64 bits; a binary32 datum stands in the low 32 bits and
the high 32 bits are 0 (00_scope.md R8; log 19). The pattern matters: the dirty check compares bits (44_models_common.md R280). -/
abbrev Flt := BitVec 64

/-- The FLT +0, the same pattern in both formats. -/
abbrev Flt.zero : Flt := 0#64

end Sys2Proof
end

