-- ==== Sys2Proof/Syntax.lean ====
section
/-! DEFINITION. The commands of the block: one constructor per row of spec/opcode_table.json (30_encoding.md R103). -/

namespace Sys2Proof

/-- A command. A unit or model command carries the instance number INST it acts on (R104); a SYS command carries nothing.
The operands A0-A3 and IARG are registers, not parts of the word (R105, R106). -/
inductive Instr where
  -- SYS, block control (CLASS 0x00)
  /-- `sys.nop`, rule R260; reads no operand. -/
  | sysNop
  /-- `sys.clrstat`, rule R261; reads no operand. -/
  | sysClrstat
  /-- `sys.sreset`, rule R262; reads no operand. -/
  | sysSreset
  /-- `sys.setctx`, rule R263; reads IARG (index), A0 (value). -/
  | sysSetctx
  -- DLN, integer delay line (CLASS 0x01)
  /-- `dln.cfg`, rule R131; reads IARG (N). -/
  | dlnCfg (inst : Nat)
  /-- `dln.setdel`, rule R132; reads A0 (lag). -/
  | dlnSetdel (inst : Nat)
  /-- `dln.tick`, rule R133; reads A0 (sample); writes Y. -/
  | dlnTick (inst : Nat)
  /-- `dln.last`, rule R134; reads no operand; writes Y. -/
  | dlnLast (inst : Nat)
  -- DLA, all-pass fractional delay line (CLASS 0x02)
  /-- `dla.cfg`, rule R141; reads IARG (N). -/
  | dlaCfg (inst : Nat)
  /-- `dla.setdel`, rule R142; reads A0 (lag). -/
  | dlaSetdel (inst : Nat)
  /-- `dla.tick`, rule R143; reads A0 (sample); writes Y. -/
  | dlaTick (inst : Nat)
  /-- `dla.last`, rule R144; reads no operand; writes Y. -/
  | dlaLast (inst : Nat)
  -- DLL, linear fractional delay line (CLASS 0x03)
  /-- `dll.cfg`, rule R151; reads IARG (N). -/
  | dllCfg (inst : Nat)
  /-- `dll.setdel`, rule R152; reads A0 (lag). -/
  | dllSetdel (inst : Nat)
  /-- `dll.tick`, rule R153; reads A0 (sample); writes Y. -/
  | dllTick (inst : Nat)
  /-- `dll.last`, rule R154; reads no operand; writes Y. -/
  | dllLast (inst : Nat)
  -- BIQ, biquad (CLASS 0x04)
  /-- `biq.setfr`, rule R171; reads A0 (freq), A1 (R). -/
  | biqSetfr (inst : Nat)
  /-- `biq.setegz`, rule R172; reads no operand. -/
  | biqSetegz (inst : Nat)
  /-- `biq.setgain`, rule R173; reads A0 (g). -/
  | biqSetgain (inst : Nat)
  /-- `biq.tick`, rule R174; reads A0 (sample); writes Y. -/
  | biqTick (inst : Nat)
  /-- `biq.clear`, rule R175; reads no operand. -/
  | biqClear (inst : Nat)
  /-- `biq.last`, rule R176; reads no operand; writes Y. -/
  | biqLast (inst : Nat)
  -- OPOLE, one-pole filter (CLASS 0x05)
  /-- `opole.setgain`, rule R180; reads A0 (g). -/
  | opoleSetgain (inst : Nat)
  /-- `opole.setcoef`, rule R181; reads A0 (c). -/
  | opoleSetcoef (inst : Nat)
  /-- `opole.tick`, rule R182; reads A0 (sample); writes Y. -/
  | opoleTick (inst : Nat)
  /-- `opole.last`, rule R183; reads no operand; writes Y. -/
  | opoleLast (inst : Nat)
  -- OZERO, one-zero filter (CLASS 0x06)
  /-- `ozero.setgain`, rule R185; reads A0 (g). -/
  | ozeroSetgain (inst : Nat)
  /-- `ozero.setcoef`, rule R186; reads A0 (c). -/
  | ozeroSetcoef (inst : Nat)
  /-- `ozero.tick`, rule R187; reads A0 (sample); writes Y. -/
  | ozeroTick (inst : Nat)
  /-- `ozero.last`, rule R188; reads no operand; writes Y. -/
  | ozeroLast (inst : Nat)
  -- DCB, DC blocker (CLASS 0x07)
  /-- `dcb.tick`, rule R190; reads A0 (sample); writes Y. -/
  | dcbTick (inst : Nat)
  /-- `dcb.last`, rule R191; reads no operand; writes Y. -/
  | dcbLast (inst : Nat)
  -- ADSR envelope (CLASS 0x08)
  /-- `adsr.settimes`, rule R211; reads A0 (attack s), A1 (decay s), A2 (sustain), A3 (release s). -/
  | adsrSettimes (inst : Nat)
  /-- `adsr.settarget`, rule R212; reads A0 (v). -/
  | adsrSettarget (inst : Nat)
  /-- `adsr.setatk`, rule R213; reads A0 (r). -/
  | adsrSetatk (inst : Nat)
  /-- `adsr.setrel`, rule R214; reads A0 (r). -/
  | adsrSetrel (inst : Nat)
  /-- `adsr.keyon`, rule R215; reads no operand. -/
  | adsrKeyon (inst : Nat)
  /-- `adsr.keyoff`, rule R216; reads no operand. -/
  | adsrKeyoff (inst : Nat)
  /-- `adsr.tick`, rule R217; reads no operand; writes Y. -/
  | adsrTick (inst : Nat)
  /-- `adsr.last`, rule R218; reads no operand; writes Y. -/
  | adsrLast (inst : Nat)
  -- ENV, breath envelope (CLASS 0x09)
  /-- `env.setrate`, rule R221; reads A0 (r). -/
  | envSetrate (inst : Nat)
  /-- `env.settarget`, rule R222; reads A0 (v). -/
  | envSettarget (inst : Nat)
  /-- `env.keyon`, rule R223; reads no operand. -/
  | envKeyon (inst : Nat)
  /-- `env.keyoff`, rule R224; reads no operand. -/
  | envKeyoff (inst : Nat)
  /-- `env.tick`, rule R225; reads no operand; writes Y. -/
  | envTick (inst : Nat)
  /-- `env.last`, rule R226; reads no operand; writes Y. -/
  | envLast (inst : Nat)
  -- BOW, bow table (CLASS 0x0A)
  /-- `bow.setslope`, rule R240; reads A0 (slope). -/
  | bowSetslope (inst : Nat)
  /-- `bow.lookup`, rule R241; reads A0 (x); writes Y. -/
  | bowLookup (inst : Nat)
  -- REED, reed table (CLASS 0x0B)
  /-- `reed.setoffset`, rule R243; reads A0 (offset). -/
  | reedSetoffset (inst : Nat)
  /-- `reed.setslope`, rule R244; reads A0 (slope). -/
  | reedSetslope (inst : Nat)
  /-- `reed.lookup`, rule R245; reads A0 (x); writes Y. -/
  | reedLookup (inst : Nat)
  -- JET, jet table (CLASS 0x0C)
  /-- `jet.lookup`, rule R247; reads A0 (x); writes Y. -/
  | jetLookup (inst : Nat)
  -- NOISE generator (CLASS 0x0D)
  /-- `noise.tick`, rule R250; reads no operand; writes Y. -/
  | noiseTick (inst : Nat)
  /-- `noise.last`, rule R251; reads no operand; writes Y. -/
  | noiseLast (inst : Nat)
  -- VIB, vibrato oscillator (CLASS 0x0E)
  /-- `vib.settab`, rule R253; reads IARG (table id). -/
  | vibSettab (inst : Nat)
  /-- `vib.setfreq`, rule R254; reads A0 (Hz). -/
  | vibSetfreq (inst : Nat)
  /-- `vib.tick`, rule R255; reads no operand; writes Y. -/
  | vibTick (inst : Nat)
  /-- `vib.last`, rule R256; reads no operand; writes Y. -/
  | vibLast (inst : Nat)
  -- BAR, banded-waveguide bar (CLASS 0x10)
  /-- `bar.setctl`, rule R272; reads IARG (control index), A0 (value). -/
  | barSetctl (inst : Nat)
  /-- `bar.init`, rule R276; reads no operand. -/
  | barInit (inst : Nat)
  /-- `bar.render`, rule R285; reads IARG (blockSize). -/
  | barRender (inst : Nat)
  /-- `bar.release`, rule R289; reads no operand. -/
  | barRelease (inst : Nat)
  -- CLAR, clarinet (CLASS 0x11)
  /-- `clar.setctl`, rule R272; reads IARG (control index), A0 (value). -/
  | clarSetctl (inst : Nat)
  /-- `clar.init`, rule R276; reads no operand. -/
  | clarInit (inst : Nat)
  /-- `clar.render`, rule R285; reads IARG (blockSize). -/
  | clarRender (inst : Nat)
  /-- `clar.release`, rule R289; reads no operand. -/
  | clarRelease (inst : Nat)
  -- FLUTE (CLASS 0x12)
  /-- `flute.setctl`, rule R272; reads IARG (control index), A0 (value). -/
  | fluteSetctl (inst : Nat)
  /-- `flute.init`, rule R276; reads no operand. -/
  | fluteInit (inst : Nat)
  /-- `flute.render`, rule R285; reads IARG (blockSize). -/
  | fluteRender (inst : Nat)
  /-- `flute.release`, rule R289; reads no operand. -/
  | fluteRelease (inst : Nat)
  -- BOWED, bowed string (CLASS 0x13)
  /-- `bowed.setctl`, rule R272; reads IARG (control index), A0 (value). -/
  | bowedSetctl (inst : Nat)
  /-- `bowed.init`, rule R276; reads no operand. -/
  | bowedInit (inst : Nat)
  /-- `bowed.render`, rule R285; reads IARG (blockSize). -/
  | bowedRender (inst : Nat)
  /-- `bowed.release`, rule R289; reads no operand. -/
  | bowedRelease (inst : Nat)
  -- BRASS (CLASS 0x14)
  /-- `brass.setctl`, rule R272; reads IARG (control index), A0 (value). -/
  | brassSetctl (inst : Nat)
  /-- `brass.init`, rule R276; reads no operand. -/
  | brassInit (inst : Nat)
  /-- `brass.render`, rule R285; reads IARG (blockSize). -/
  | brassRender (inst : Nat)
  /-- `brass.release`, rule R289; reads no operand. -/
  | brassRelease (inst : Nat)
  deriving DecidableEq, Repr

namespace Instr

/-- CLASS of a command (30_encoding.md R102). -/
def cls : Instr → Nat
  | .sysNop => 0
  | .sysClrstat => 0
  | .sysSreset => 0
  | .sysSetctx => 0
  | .dlnCfg _ => 1
  | .dlnSetdel _ => 1
  | .dlnTick _ => 1
  | .dlnLast _ => 1
  | .dlaCfg _ => 2
  | .dlaSetdel _ => 2
  | .dlaTick _ => 2
  | .dlaLast _ => 2
  | .dllCfg _ => 3
  | .dllSetdel _ => 3
  | .dllTick _ => 3
  | .dllLast _ => 3
  | .biqSetfr _ => 4
  | .biqSetegz _ => 4
  | .biqSetgain _ => 4
  | .biqTick _ => 4
  | .biqClear _ => 4
  | .biqLast _ => 4
  | .opoleSetgain _ => 5
  | .opoleSetcoef _ => 5
  | .opoleTick _ => 5
  | .opoleLast _ => 5
  | .ozeroSetgain _ => 6
  | .ozeroSetcoef _ => 6
  | .ozeroTick _ => 6
  | .ozeroLast _ => 6
  | .dcbTick _ => 7
  | .dcbLast _ => 7
  | .adsrSettimes _ => 8
  | .adsrSettarget _ => 8
  | .adsrSetatk _ => 8
  | .adsrSetrel _ => 8
  | .adsrKeyon _ => 8
  | .adsrKeyoff _ => 8
  | .adsrTick _ => 8
  | .adsrLast _ => 8
  | .envSetrate _ => 9
  | .envSettarget _ => 9
  | .envKeyon _ => 9
  | .envKeyoff _ => 9
  | .envTick _ => 9
  | .envLast _ => 9
  | .bowSetslope _ => 10
  | .bowLookup _ => 10
  | .reedSetoffset _ => 11
  | .reedSetslope _ => 11
  | .reedLookup _ => 11
  | .jetLookup _ => 12
  | .noiseTick _ => 13
  | .noiseLast _ => 13
  | .vibSettab _ => 14
  | .vibSetfreq _ => 14
  | .vibTick _ => 14
  | .vibLast _ => 14
  | .barSetctl _ => 16
  | .barInit _ => 16
  | .barRender _ => 16
  | .barRelease _ => 16
  | .clarSetctl _ => 17
  | .clarInit _ => 17
  | .clarRender _ => 17
  | .clarRelease _ => 17
  | .fluteSetctl _ => 18
  | .fluteInit _ => 18
  | .fluteRender _ => 18
  | .fluteRelease _ => 18
  | .bowedSetctl _ => 19
  | .bowedInit _ => 19
  | .bowedRender _ => 19
  | .bowedRelease _ => 19
  | .brassSetctl _ => 20
  | .brassInit _ => 20
  | .brassRender _ => 20
  | .brassRelease _ => 20

/-- FUNC of a command (30_encoding.md R103). -/
def fn : Instr → Nat
  | .sysNop => 0
  | .sysClrstat => 1
  | .sysSreset => 2
  | .sysSetctx => 3
  | .dlnCfg _ => 0
  | .dlnSetdel _ => 1
  | .dlnTick _ => 2
  | .dlnLast _ => 3
  | .dlaCfg _ => 0
  | .dlaSetdel _ => 1
  | .dlaTick _ => 2
  | .dlaLast _ => 3
  | .dllCfg _ => 0
  | .dllSetdel _ => 1
  | .dllTick _ => 2
  | .dllLast _ => 3
  | .biqSetfr _ => 0
  | .biqSetegz _ => 1
  | .biqSetgain _ => 2
  | .biqTick _ => 3
  | .biqClear _ => 4
  | .biqLast _ => 5
  | .opoleSetgain _ => 0
  | .opoleSetcoef _ => 1
  | .opoleTick _ => 2
  | .opoleLast _ => 3
  | .ozeroSetgain _ => 0
  | .ozeroSetcoef _ => 1
  | .ozeroTick _ => 2
  | .ozeroLast _ => 3
  | .dcbTick _ => 0
  | .dcbLast _ => 1
  | .adsrSettimes _ => 0
  | .adsrSettarget _ => 1
  | .adsrSetatk _ => 2
  | .adsrSetrel _ => 3
  | .adsrKeyon _ => 4
  | .adsrKeyoff _ => 5
  | .adsrTick _ => 6
  | .adsrLast _ => 7
  | .envSetrate _ => 0
  | .envSettarget _ => 1
  | .envKeyon _ => 2
  | .envKeyoff _ => 3
  | .envTick _ => 4
  | .envLast _ => 5
  | .bowSetslope _ => 0
  | .bowLookup _ => 1
  | .reedSetoffset _ => 0
  | .reedSetslope _ => 1
  | .reedLookup _ => 2
  | .jetLookup _ => 0
  | .noiseTick _ => 0
  | .noiseLast _ => 1
  | .vibSettab _ => 0
  | .vibSetfreq _ => 1
  | .vibTick _ => 2
  | .vibLast _ => 3
  | .barSetctl _ => 0
  | .barInit _ => 1
  | .barRender _ => 2
  | .barRelease _ => 3
  | .clarSetctl _ => 0
  | .clarInit _ => 1
  | .clarRender _ => 2
  | .clarRelease _ => 3
  | .fluteSetctl _ => 0
  | .fluteInit _ => 1
  | .fluteRender _ => 2
  | .fluteRelease _ => 3
  | .bowedSetctl _ => 0
  | .bowedInit _ => 1
  | .bowedRender _ => 2
  | .bowedRelease _ => 3
  | .brassSetctl _ => 0
  | .brassInit _ => 1
  | .brassRender _ => 2
  | .brassRelease _ => 3

/-- INST of a command; 0 for SYS (30_encoding.md R104). -/
def inst : Instr → Nat
  | .sysNop => 0
  | .sysClrstat => 0
  | .sysSreset => 0
  | .sysSetctx => 0
  | .dlnCfg i => i
  | .dlnSetdel i => i
  | .dlnTick i => i
  | .dlnLast i => i
  | .dlaCfg i => i
  | .dlaSetdel i => i
  | .dlaTick i => i
  | .dlaLast i => i
  | .dllCfg i => i
  | .dllSetdel i => i
  | .dllTick i => i
  | .dllLast i => i
  | .biqSetfr i => i
  | .biqSetegz i => i
  | .biqSetgain i => i
  | .biqTick i => i
  | .biqClear i => i
  | .biqLast i => i
  | .opoleSetgain i => i
  | .opoleSetcoef i => i
  | .opoleTick i => i
  | .opoleLast i => i
  | .ozeroSetgain i => i
  | .ozeroSetcoef i => i
  | .ozeroTick i => i
  | .ozeroLast i => i
  | .dcbTick i => i
  | .dcbLast i => i
  | .adsrSettimes i => i
  | .adsrSettarget i => i
  | .adsrSetatk i => i
  | .adsrSetrel i => i
  | .adsrKeyon i => i
  | .adsrKeyoff i => i
  | .adsrTick i => i
  | .adsrLast i => i
  | .envSetrate i => i
  | .envSettarget i => i
  | .envKeyon i => i
  | .envKeyoff i => i
  | .envTick i => i
  | .envLast i => i
  | .bowSetslope i => i
  | .bowLookup i => i
  | .reedSetoffset i => i
  | .reedSetslope i => i
  | .reedLookup i => i
  | .jetLookup i => i
  | .noiseTick i => i
  | .noiseLast i => i
  | .vibSettab i => i
  | .vibSetfreq i => i
  | .vibTick i => i
  | .vibLast i => i
  | .barSetctl i => i
  | .barInit i => i
  | .barRender i => i
  | .barRelease i => i
  | .clarSetctl i => i
  | .clarInit i => i
  | .clarRender i => i
  | .clarRelease i => i
  | .fluteSetctl i => i
  | .fluteInit i => i
  | .fluteRender i => i
  | .fluteRelease i => i
  | .bowedSetctl i => i
  | .bowedInit i => i
  | .bowedRender i => i
  | .bowedRelease i => i
  | .brassSetctl i => i
  | .brassInit i => i
  | .brassRender i => i
  | .brassRelease i => i

end Instr
end Sys2Proof
end

