-- ==== Sys2Proof/WellFormed.lean ====
section
/-! DEFINITION. When a command can be written as a word (30_encoding.md R101). -/

namespace Sys2Proof

/-- The instance number fits the 6-bit INST field (R101: bits 21:16, instances 0..63). -/
abbrev Instr.instFits (i : Instr) : Bool := decide (i.inst < 64)

/-- A command is well formed when its one field fits; SYS commands have INST 0 by construction (R104). -/
abbrev Instr.wellFormed (i : Instr) : Bool := i.instFits

end Sys2Proof
end

