-- ==== Sys2Proof/Decode.lean ====
section
/-! DEFINITION. The command word (30_encoding.md R101-R109): the decoder, total on every word and rejecting by name, and
the encoder, written from the same tables. The test INST < N_C of R107 needs the instance counts and stands in
Machine/Ops.lean (`State.illegal`): R107 applies it after the match. -/

namespace Sys2Proof

/-- Why a word is no command (30_encoding.md R108). Each of them raises ERR_ILLEGAL (R107). -/
inductive Reject where
  /-- Bits 15:0 are not 0. -/
  | zeroField
  /-- The pair (CLASS, FUNC) is not in the table of R103. -/
  | reserved
  /-- A SYS word whose INST is not 0. -/
  | sysInst
  deriving DecidableEq, Repr

/-- CLASS, bits 31:26 of a command word (R101). -/
def wordCls (w : U32) : Nat := w.toNat / 2 ^ 26 % 64
/-- FUNC, bits 25:22 (R101). -/
def wordFn (w : U32) : Nat := w.toNat / 2 ^ 22 % 16
/-- INST, bits 21:16 (R101). -/
def wordInst (w : U32) : Nat := w.toNat / 2 ^ 16 % 64
/-- ZERO, bits 15:0 (R101). -/
def wordZero (w : U32) : Nat := w.toNat % 2 ^ 16

/-- The table of R103: the command of a (CLASS, FUNC) pair with instance `i`, none where the pair is reserved. -/
def tableEntry (cls fn i : Nat) : Option Instr :=
  match cls, fn with
  -- SYS
  | 0, 0 => some .sysNop
  | 0, 1 => some .sysClrstat
  | 0, 2 => some .sysSreset
  | 0, 3 => some .sysSetctx
  -- DLN
  | 1, 0 => some (.dlnCfg i)
  | 1, 1 => some (.dlnSetdel i)
  | 1, 2 => some (.dlnTick i)
  | 1, 3 => some (.dlnLast i)
  -- DLA
  | 2, 0 => some (.dlaCfg i)
  | 2, 1 => some (.dlaSetdel i)
  | 2, 2 => some (.dlaTick i)
  | 2, 3 => some (.dlaLast i)
  -- DLL
  | 3, 0 => some (.dllCfg i)
  | 3, 1 => some (.dllSetdel i)
  | 3, 2 => some (.dllTick i)
  | 3, 3 => some (.dllLast i)
  -- BIQ
  | 4, 0 => some (.biqSetfr i)
  | 4, 1 => some (.biqSetegz i)
  | 4, 2 => some (.biqSetgain i)
  | 4, 3 => some (.biqTick i)
  | 4, 4 => some (.biqClear i)
  | 4, 5 => some (.biqLast i)
  -- OPOLE
  | 5, 0 => some (.opoleSetgain i)
  | 5, 1 => some (.opoleSetcoef i)
  | 5, 2 => some (.opoleTick i)
  | 5, 3 => some (.opoleLast i)
  -- OZERO
  | 6, 0 => some (.ozeroSetgain i)
  | 6, 1 => some (.ozeroSetcoef i)
  | 6, 2 => some (.ozeroTick i)
  | 6, 3 => some (.ozeroLast i)
  -- DCB
  | 7, 0 => some (.dcbTick i)
  | 7, 1 => some (.dcbLast i)
  -- ADSR
  | 8, 0 => some (.adsrSettimes i)
  | 8, 1 => some (.adsrSettarget i)
  | 8, 2 => some (.adsrSetatk i)
  | 8, 3 => some (.adsrSetrel i)
  | 8, 4 => some (.adsrKeyon i)
  | 8, 5 => some (.adsrKeyoff i)
  | 8, 6 => some (.adsrTick i)
  | 8, 7 => some (.adsrLast i)
  -- ENV
  | 9, 0 => some (.envSetrate i)
  | 9, 1 => some (.envSettarget i)
  | 9, 2 => some (.envKeyon i)
  | 9, 3 => some (.envKeyoff i)
  | 9, 4 => some (.envTick i)
  | 9, 5 => some (.envLast i)
  -- BOW
  | 10, 0 => some (.bowSetslope i)
  | 10, 1 => some (.bowLookup i)
  -- REED
  | 11, 0 => some (.reedSetoffset i)
  | 11, 1 => some (.reedSetslope i)
  | 11, 2 => some (.reedLookup i)
  -- JET
  | 12, 0 => some (.jetLookup i)
  -- NOISE
  | 13, 0 => some (.noiseTick i)
  | 13, 1 => some (.noiseLast i)
  -- VIB
  | 14, 0 => some (.vibSettab i)
  | 14, 1 => some (.vibSetfreq i)
  | 14, 2 => some (.vibTick i)
  | 14, 3 => some (.vibLast i)
  -- BAR
  | 16, 0 => some (.barSetctl i)
  | 16, 1 => some (.barInit i)
  | 16, 2 => some (.barRender i)
  | 16, 3 => some (.barRelease i)
  -- CLAR
  | 17, 0 => some (.clarSetctl i)
  | 17, 1 => some (.clarInit i)
  | 17, 2 => some (.clarRender i)
  | 17, 3 => some (.clarRelease i)
  -- FLUTE
  | 18, 0 => some (.fluteSetctl i)
  | 18, 1 => some (.fluteInit i)
  | 18, 2 => some (.fluteRender i)
  | 18, 3 => some (.fluteRelease i)
  -- BOWED
  | 19, 0 => some (.bowedSetctl i)
  | 19, 1 => some (.bowedInit i)
  | 19, 2 => some (.bowedRender i)
  | 19, 3 => some (.bowedRelease i)
  -- BRASS
  | 20, 0 => some (.brassSetctl i)
  | 20, 1 => some (.brassInit i)
  | 20, 2 => some (.brassRender i)
  | 20, 3 => some (.brassRelease i)
  | _, _ => none

/-- The decode procedure of R107, but for its INST < N_C test. -/
def decode (w : U32) : Except Reject Instr :=
  if wordZero w ≠ 0 then .error .zeroField
  else
    match tableEntry (wordCls w) (wordFn w) (wordInst w) with
    | none => .error .reserved
    | some i => if wordCls w = 0 ∧ wordInst w ≠ 0 then .error .sysInst else .ok i

/-- The word of a command: CLASS·2^26 + FUNC·2^22 + INST·2^16 (R101). -/
def encode (i : Instr) : U32 :=
  BitVec.ofNat 32 (i.cls * 2 ^ 26 + i.fn * 2 ^ 22 + i.inst * 2 ^ 16)

/-- The host's question: the command the decoder reads from a table row's word (one 32-bit word). -/
def decodeTableWord (nbits w : Nat) : Option Instr :=
  match decode (BitVec.ofNat 32 (w % 2 ^ nbits)) with
  | .ok i => some i
  | .error _ => none

end Sys2Proof
end

