-- ==== Sys2Proof/Machine/Flags.lean ====
section
/-! DEFINITION. The STATUS bits (10_state.md R33, 60_exceptions.md R362), and the answer of a rule: done with some warnings,
or abandoned with an error (R34). The block has no other flags (R35). -/

namespace Sys2Proof.Machine

/-- Bit 0: a delay lag or a frequency was clamped. -/
abbrev warnClamp : U32 := 0x1#32
/-- Bit 1: a model INIT fell back to FLOOR_HZ. -/
abbrev warnFloor : U32 := 0x2#32
/-- Bit 2: an envelope rate operand was negative. -/
abbrev warnRate : U32 := 0x4#32
/-- Bit 3: a delay-line command reached a line that was never configured. -/
abbrev errUnsized : U32 := 0x8#32
/-- Bit 4: a required waveform table is absent. -/
abbrev errNotable : U32 := 0x10#32
/-- Bit 5: the word is no defined command. -/
abbrev errIllegal : U32 := 0x20#32
/-- Bit 6: needed state is absent. -/
abbrev errState : U32 := 0x40#32
/-- Bit 7: an operand is out of range or not finite. -/
abbrev errOperand : U32 := 0x80#32
/-- Bit 15: the last command was abandoned. -/
abbrev cmdFail : U32 := 0x8000#32
/-- The bits that can be set; the others read 0 (R33). -/
abbrev statusDefined : U32 := 0x80FF#32

/-- What a rule answers. `warn` are the warnings it set, in either case: warnings set before an error stay set (R363). -/
inductive Res (α : Type) where
  /-- The rule completed with a value. -/
  | ok (warn : U32) (a : α)
  /-- The rule raised `err` and is abandoned (R34). -/
  | raise (warn err : U32)
  deriving DecidableEq, Repr

/-- The value of a completed rule, changed; an abandoned rule stays abandoned. -/
def Res.map {α β : Type} (g : α → β) : Res α → Res β
  | .ok w a => .ok w (g a)
  | .raise w e => .raise w e

/-- A condition a rule requires, else it raises `err` ("require … else raise E"). -/
def Res.require {α : Type} (cond : Bool) (err : U32) (r : Res α) : Res α :=
  if cond then r else .raise 0 err

end Sys2Proof.Machine
end

