-- ==== Sys2Proof/Config.lean ====
section
/-! DEFINITION. What an implementation fixes (the parameters of 00_scope.md R8 and the constants of 45_models.md R300) and
the free values: what the spec leaves open, as constants without a body. -/

namespace Sys2Proof

/-- The number format FLT (00_scope.md R8, row FLT; D2). -/
inductive Fmt where
  | binary32
  | binary64
  deriving DecidableEq, Repr

/-- The transcendental functions (00_scope.md R8, row SIN, COS, POW; D3; log 4). -/
inductive Libm where
  /-- The default: every result correctly rounded. -/
  | correctlyRounded
  /-- Any other total functions: the free functions of `Config` below. -/
  | other
  deriving DecidableEq, Repr

/-- Which rate an envelope time is converted with (00_scope.md R8, row ENV_RATE_BASIS; D21). -/
inductive RateBasis where
  | kr
  | sr
  deriving DecidableEq, Repr

/-- The four operands a model gives adsr.settimes at INIT (45_models.md R300, rows "ADSR times"). -/
structure AdsrTimes where
  attack : Flt
  decay : Flt
  sustain : Flt
  release : Flt
  deriving DecidableEq, Repr

/-- FMAX_m of CLAR, FLUTE, BOWED or BRASS, a constant of each model (45_models.md R300, row FMAX_m; 00_scope.md R8; log 33). -/
inductive FmaxConst where
  /-- A quotient of the sample rate: R300's SR/8 is `srOver 8`. -/
  | srOver (d : Flt)
  /-- A frequency in Hz, whatever the sample rate. -/
  | hertz (v : Flt)
  deriving DecidableEq, Repr

/-- Model constants of BAR that the document does not fix (45_models.md R300). -/
structure BarConsts where
  /-- Km, the period factor of the buffer request (R275). -/
  km : Flt
  /-- OUTGAIN (R292), by default 1 / AMP_RSCALE. -/
  outGain : Flt
  times : AdsrTimes
  /-- Bow slope `slopeBase - slopeStep * BOWPRESS`. -/
  slopeBase : Flt
  slopeStep : Flt
  /-- maxVel `velBase + velStep * ampN`. -/
  velBase : Flt
  velStep : Flt
  /-- The bow-target step, the velocity decay and the target decay. -/
  targStep : Flt
  velDecay : Flt
  targDecay : Flt
  deriving DecidableEq, Repr

/-- Model constants of CLAR (45_models.md R300). -/
structure ClarConsts where
  fmax : FmaxConst
  km : Flt
  outGain : Flt
  /-- Bore lag `lagFactor * SR / f - lagOffset`. -/
  lagFactor : Flt
  lagOffset : Flt
  reedOffset : Flt
  reedSlope : Flt
  /-- The reflection filter's gain and coefficient, and the reflection factor. -/
  reflGain : Flt
  reflCoef : Flt
  reflFactor : Flt
  /-- Breath target `breathBase + breathStep * ampN`. -/
  breathBase : Flt
  breathStep : Flt
  deriving DecidableEq, Repr

/-- Model constants of FLUTE that the document does not fix (45_models.md R300); the factor 1.5 is the document's. -/
structure FluteConsts where
  fmax : FmaxConst
  outGain : Flt
  lagOffset : Flt
  /-- Loss pole `poleBase - poleStep * poleRef / SR`. -/
  poleBase : Flt
  poleStep : Flt
  poleRef : Flt
  lossGain : Flt
  times : AdsrTimes
  /-- maxP `(pressBase + pressStep * ampN) / pressDiv`. -/
  pressBase : Flt
  pressStep : Flt
  pressDiv : Flt
  outFactor : Flt
  deriving DecidableEq, Repr

/-- Model constants of BOWED (45_models.md R300). -/
structure BowedConsts where
  fmax : FmaxConst
  km : Flt
  outGain : Flt
  /-- BOWED_COMP (D35). -/
  comp : Flt
  poleBase : Flt
  poleStep : Flt
  poleRef : Flt
  lossGain : Flt
  bodyFreq : Flt
  bodyR : Flt
  bodyGain : Flt
  slopeBase : Flt
  slopeStep : Flt
  velBase : Flt
  velStep : Flt
  times : AdsrTimes
  deriving DecidableEq, Repr

/-- Model constants of BRASS (45_models.md R300). -/
structure BrassConsts where
  fmax : FmaxConst
  km : Flt
  outGain : Flt
  /-- Slide lag `lagFactor * SR / f + lagOffset`. -/
  lagFactor : Flt
  lagOffset : Flt
  /-- Lip frequency `f * POW(lipBase, lipScale * LIPTENSION - lipShift)`. -/
  lipBase : Flt
  lipScale : Flt
  lipShift : Flt
  lipR : Flt
  lipGain : Flt
  times : AdsrTimes
  mouthFactor : Flt
  boreFactor : Flt
  deriving DecidableEq, Repr

/-- The implementation parameters of 00_scope.md R8 other than the instance counts (`Counts`; log 3), NOISE_SRC (log 6) and
HOST_ENDIAN (log 13). -/
structure Params where
  fmt : Fmt
  libm : Libm
  /-- MAXCAP, the largest delay-buffer capacity. -/
  maxCap : Nat
  /-- DCB_R, the DC blocker's pole. -/
  dcbR : Flt
  /-- ENV_RATE_BASIS. -/
  rateBasis : RateBasis
  /-- AMP_RSCALE. -/
  ampRscale : Flt
  /-- FLOOR_HZ. -/
  floorHz : Flt
  bar : BarConsts
  clar : ClarConsts
  flute : FluteConsts
  bowed : BowedConsts
  brass : BrassConsts
  deriving DecidableEq, Repr

/-- The instance count N_C of each class (00_scope.md R8; log 3). -/
structure Counts where
  dln : Nat
  dla : Nat
  dll : Nat
  biq : Nat
  opole : Nat
  ozero : Nat
  dcb : Nat
  adsr : Nat
  env : Nat
  bow : Nat
  reed : Nat
  jet : Nat
  noise : Nat
  vib : Nat
  bar : Nat
  clar : Nat
  flute : Nat
  bowed : Nat
  brass : Nat
  deriving DecidableEq, Repr

namespace Config

/-- Sign and payload of the quiet NaN that operation number `op` gives on its operands: IEEE 754 leaves them open (log 5). -/
opaque nanBits : (op : Nat) → Flt → Flt → Flt

/-- The answer of NOISE_SRC to the draw numbered by the free-value counter (R250, I5; log 6). -/
opaque noise : Nat → Flt

/-- A word TableRead answers when the host broke the duty of 20_memory.md R75 (I18; log 7). -/
opaque staleWord : Nat → Flt

/-- What `fmod_wrap` of a non-finite number and a modulus gives: 00_scope.md R11 states no result (log 8). -/
opaque wrapNonFinite : Flt → Nat → Flt

/-- What `trunc` or `floor` of a non-finite number gives: 00_scope.md R11 states no result (log 9). -/
opaque truncNonFinite : Flt → Int

/-- SIN, COS and POW of an implementation whose functions are not the correctly rounded ones (I2; log 4). -/
opaque libmSin : Fmt → Flt → Flt
/-- See `libmSin`. -/
opaque libmCos : Fmt → Flt → Flt
/-- See `libmSin`. -/
opaque libmPow : Fmt → Flt → Flt → Flt

/-- HOST_ENDIAN is little (row HOST_ENDIAN of R8, OPEN; D41, I11; log 13): the byte order of the host's sample memory. -/
opaque hostLittleEndian : Bool

end Config
end Sys2Proof
end

