-- ==== Sys2Proof/Machine/Float.lean ====
section
/-! DEFINITION. FLT arithmetic (00_scope.md R10, R11; D2): IEEE 754 binary64 or binary32, round to nearest even, one
rounding per operation. A finite FLT is an integer count of the format's smallest subnormal; every operation computes
exactly on such integers and rounds once. -/

namespace Sys2Proof
namespace Fmt

/-- Precision: bits of the significand with the hidden bit. -/
def prec : Fmt → Nat
  | .binary32 => 24
  | .binary64 => 53

/-- Width of a datum in bits. -/
def width : Fmt → Nat
  | .binary32 => 32
  | .binary64 => 64

/-- Width of the exponent field. -/
def expBits : Fmt → Nat
  | .binary32 => 8
  | .binary64 => 11

/-- The smallest subnormal is `2 ^ -unit`. -/
def unit : Fmt → Nat
  | .binary32 => 149
  | .binary64 => 1074

/-- The magnitude bits (all bits but the sign) of infinity; larger magnitudes are NaN. -/
def infMag (f : Fmt) : Nat := (2 ^ f.expBits - 1) * 2 ^ (f.prec - 1)

/-- The bits of a datum below its sign bit. -/
def mag (f : Fmt) (x : Flt) : Nat := x.toNat % 2 ^ (f.width - 1)

/-- The sign bit of a datum. -/
def sign (f : Fmt) (x : Flt) : Bool := x.toNat / 2 ^ (f.width - 1) % 2 == 1

/-- The datum with sign `s` and magnitude bits `m`. -/
def pack (f : Fmt) (s : Bool) (m : Nat) : Flt :=
  BitVec.ofNat 64 ((if s then 2 ^ (f.width - 1) else 0) + m % 2 ^ (f.width - 1))

/-- A pattern read as a datum of the format: the bits above the width are dropped (log 19). -/
def fit (f : Fmt) (x : Flt) : Flt := BitVec.ofNat 64 (x.toNat % 2 ^ f.width)

def isNaN (f : Fmt) (x : Flt) : Bool := decide (f.infMag < f.mag x)
def isInf (f : Fmt) (x : Flt) : Bool := decide (f.mag x = f.infMag)
def isFinite (f : Fmt) (x : Flt) : Bool := decide (f.mag x < f.infMag)

/-- The number of smallest subnormals in the magnitude bits `m` of a finite datum. -/
def scaled (f : Fmt) (m : Nat) : Nat :=
  let e := m / 2 ^ (f.prec - 1)
  let h := m % 2 ^ (f.prec - 1)
  if e = 0 then h else (h + 2 ^ (f.prec - 1)) * 2 ^ (e - 1)

/-- The exact value of a finite datum, in smallest subnormals. -/
def value (f : Fmt) (x : Flt) : Int :=
  if f.sign x then -(f.scaled (f.mag x) : Int) else (f.scaled (f.mag x) : Int)

/-- `n / d` smallest subnormals (`d > 0`) rounded to nearest, ties to even, as magnitude bits; too large is infinity. -/
def roundMag (f : Fmt) (n d : Nat) : Nat :=
  let k := Nat.log2 (n / d) + 1 - f.prec
  let e := d * 2 ^ k
  let q := n / e
  let r := n % e
  let q' := if e < 2 * r ∨ (2 * r = e ∧ q % 2 = 1) then q + 1 else q
  min (k * 2 ^ (f.prec - 1) + q') f.infMag

/-- A value of `n / d` smallest subnormals rounded to a datum; 0 is +0. -/
def ofScaled (f : Fmt) (n : Int) (d : Nat) : Flt := f.pack (decide (n < 0)) (f.roundMag n.natAbs d)

/-- The rational `n / d` rounded to FLT: how a decimal literal of the rules is read (30_encoding.md R110). -/
def lit (f : Fmt) (n : Int) (d : Nat) : Flt := f.ofScaled (n * (2 ^ f.unit : Nat)) d

/-- `FLT(n)`: an integer rounded to FLT. -/
def fromInt (f : Fmt) (n : Int) : Flt := f.lit n 1

/-- `FLT(n)` of a natural number. -/
def fromNat (f : Fmt) (n : Nat) : Flt := f.lit n 1

/-- `x > n` for a natural number `n`, compared exactly; false for a NaN. -/
def gtNat (f : Fmt) (x : Flt) (n : Nat) : Bool :=
  !f.isNaN x && !f.sign x && (f.isInf x || decide (n * 2 ^ f.unit < f.scaled (f.mag x)))

/-- The greatest FLT not above the natural number `n`: `n` itself wherever FLT holds it (log 15). -/
def fromNatDown (f : Fmt) (n : Nat) : Flt := if f.gtNat (f.fromNat n) n then f.fromNat n - 1 else f.fromNat n

/-- A quiet NaN; its sign and payload are free (log 5). -/
def nan (f : Fmt) (op : Nat) (x y : Flt) : Flt :=
  let z := Config.nanBits op x y
  f.pack (f.sign z) (f.infMag + 2 ^ (f.prec - 2) + z.toNat % 2 ^ (f.prec - 2))

/-- The infinity of a sign. -/
def inf (f : Fmt) (s : Bool) : Flt := f.pack s f.infMag

/-- Unary minus: the IEEE 754 negate operation, which inverts the sign bit (log 18). -/
def neg (f : Fmt) (x : Flt) : Flt := f.pack (!f.sign x) (f.mag x)

/-- `|x|`: the IEEE 754 abs operation, sign bit cleared (00_scope.md R10). -/
def abs (f : Fmt) (x : Flt) : Flt := f.pack false (f.mag x)

/-- `x + y`. -/
def add (f : Fmt) (x y : Flt) : Flt :=
  if f.isNaN x || f.isNaN y then f.nan 0 x y
  else if f.isInf x then
    if f.isInf y && (f.sign x != f.sign y) then f.nan 0 x y else f.inf (f.sign x)
  else if f.isInf y then f.inf (f.sign y)
  else if f.value x + f.value y = 0 then f.pack (f.sign x && f.sign y) 0
  else f.ofScaled (f.value x + f.value y) 1

/-- `x - y`: the sum of `x` and `y` negated. -/
def sub (f : Fmt) (x y : Flt) : Flt := f.add x (f.neg y)

/-- `x * y`. -/
def mul (f : Fmt) (x y : Flt) : Flt :=
  let s := f.sign x != f.sign y
  if f.isNaN x || f.isNaN y then f.nan 1 x y
  else if f.isInf x then if f.mag y = 0 then f.nan 1 x y else f.inf s
  else if f.isInf y then if f.mag x = 0 then f.nan 1 x y else f.inf s
  else f.pack s (f.roundMag (f.scaled (f.mag x) * f.scaled (f.mag y)) (2 ^ f.unit))

/-- `x / y`. -/
def div (f : Fmt) (x y : Flt) : Flt :=
  let s := f.sign x != f.sign y
  if f.isNaN x || f.isNaN y then f.nan 2 x y
  else if f.isInf x then if f.isInf y then f.nan 2 x y else f.inf s
  else if f.isInf y then f.pack s 0
  else if f.mag y = 0 then if f.mag x = 0 then f.nan 2 x y else f.inf s
  else f.pack s (f.roundMag (f.scaled (f.mag x) * 2 ^ f.unit) (f.scaled (f.mag y)))

/-- The order key of a datum that is no NaN: magnitudes of one format are ordered as their bits, and -0 equals +0. -/
def key (f : Fmt) (x : Flt) : Int := if f.sign x then -(f.mag x : Int) else (f.mag x : Int)

/-- `x < y`; false when either is NaN. -/
def lt (f : Fmt) (x y : Flt) : Bool := !f.isNaN x && !f.isNaN y && decide (f.key x < f.key y)

/-- `x <= y`; false when either is NaN. -/
def le (f : Fmt) (x y : Flt) : Bool := !f.isNaN x && !f.isNaN y && decide (f.key x ≤ f.key y)

/-- `x = y` as numbers (-0 equals +0); false when either is NaN. -/
def eq (f : Fmt) (x y : Flt) : Bool := !f.isNaN x && !f.isNaN y && decide (f.key x = f.key y)

/-- `max(x, y)`: the first operand when the two compare equal (00_scope.md R10). -/
def max (f : Fmt) (x y : Flt) : Flt := if f.lt x y then y else x

/-- `clamp(v, lo, hi)` of 43_tables_noise_vibrato.md: a NaN passes through. -/
def clamp (f : Fmt) (v lo hi : Flt) : Flt := if f.lt v lo then lo else if f.lt hi v then hi else v

/-- `trunc(x)`: toward zero (00_scope.md R11); free for a non-finite number (log 9). -/
def trunc (f : Fmt) (x : Flt) : Int :=
  if f.isFinite x then (f.value x).tdiv (2 ^ f.unit : Nat) else Config.truncNonFinite x

/-- `floor(x)`: toward minus infinity (00_scope.md R11); free for a non-finite number (log 9). -/
def floor (f : Fmt) (x : Flt) : Int :=
  if f.isFinite x then (f.value x) / (2 ^ f.unit : Nat) else Config.truncNonFinite x

/-- Whether `v` is a finite FLT in [0, m). -/
def inRange (f : Fmt) (v : Flt) (m : Nat) : Bool :=
  f.isFinite v && !f.sign v && decide (f.scaled (f.mag v) < m * 2 ^ f.unit)

/-- `fmod_wrap(p, m)` (00_scope.md R11): the representative of `p` in [0, m), rounded once; a result that rounds up to `m`,
and an exact 0, are +0. So is a result that rounds past an `m` that FLT does not hold (log 31). For a non-finite `p` no such number
exists: a free value in [0, m) (log 8). -/
def wrap (f : Fmt) (p : Flt) (m : Nat) : Flt :=
  let v :=
    if f.isFinite p then f.ofScaled (f.value p % ((m * 2 ^ f.unit : Nat) : Int)) 1
    else f.fit (Config.wrapNonFinite p m)
  if f.inRange v m then v else Flt.zero

/-- 1.0 of the format. -/
abbrev one (f : Fmt) : Flt := f.lit 1 1

end Fmt
end Sys2Proof
end

