-- ==== Sys2Proof/Machine/Libm.lean ====
section
/-! DEFINITION. SIN, COS and POW (00_scope.md R8, R10; D3; log 4): the correctly rounded functions, computed in fixed
point with far more bits than any result needs and rounded once, or the free functions of Config. -/

namespace Sys2Proof
namespace Fmt

/-- floor(π · 2^2700). -/
def piFix : Nat :=
  0x3243f6a8885a308d313198a2e03707344a4093822299f31d0082efa98ec4e6c89452821e638d01377be5466cf34e90c6cc0ac29b7c97c50dd3f84d5b5b54709179216d5d98979fb1bd1310ba698dfb5ac2ffd72dbd01adfb7b8e1afed6a267e96ba7c9045f12c7f9924a19947b3916cf70801f2e2858efc16636920d871574e69a458fea3f4933d7e0d95748f728eb658718bcd5882154aee7b54a41dc25a59b59c30d5392af26013c5d1b023286085f0ca417918b8db38ef8e79dcb0603a180e6c9e0e8bb01e8a3ed71577c1bd314b2778af2fda55605c60e65525f3aa55ab945748986263e8144055ca396a2aab10b6b4cc5c341141e8cea15486af7c72e993b3ee1411636fbc2a2ba9c55d741831f6ce5c3e169b87931eafd6ba336c24cf5c7a325381289586773b8f48986b4bb9afc4bfe81b6628219361d809ccfb21a991487cac605dec8032ef845d5de98575b1dc2

/-- π: the FLT nearest to pi (00_scope.md R10). -/
def pi (f : Fmt) : Flt := f.pack false (f.roundMag piFix (2 ^ (2700 - f.unit)))

/-- TWO_PI: the FLT nearest to 2·pi (00_scope.md R10). -/
def twoPi (f : Fmt) : Flt := f.pack false (f.roundMag (2 * piFix) (2 ^ (2700 - f.unit)))

/-- The alternating Taylor sum `t - t·r2/((k+1)(k+2)) + …` in fixed point with 1500 fraction bits, as the sums of its
positive and of its negative terms. -/
def altSum (r2 : Nat) : (fuel k t : Nat) → Nat × Nat
  | 0, _, _ => (0, 0)
  | n + 1, k, t =>
    let rest := altSum r2 n (k + 2) (t * r2 / 2 ^ 1500 / ((k + 1) * (k + 2)))
    (t + rest.2, rest.1)

/-- sin r for r in [0, π/2], 1500 fraction bits. -/
def sinFix (r : Nat) : Nat :=
  let s := altSum (r * r / 2 ^ 1500) 150 1 r
  s.1 - s.2

/-- cos r for r in [0, π/2], 1500 fraction bits. -/
def cosFix (r : Nat) : Nat :=
  let s := altSum (r * r / 2 ^ 1500) 150 0 (2 ^ 1500)
  s.1 - s.2

/-- The quadrant of `|x|` and the rest in [0, π/2) with 1500 fraction bits. -/
def quadrant (f : Fmt) (x : Flt) : Nat × Nat :=
  let a := f.scaled (f.mag x) * 2 ^ (2700 - f.unit)
  (a / (piFix / 2) % 4, a % (piFix / 2) / 2 ^ 1200)

/-- A fixed-point number with 1500 fraction bits, rounded to FLT with sign `s`. -/
def ofFix (f : Fmt) (s : Bool) (v : Nat) : Flt := f.pack s (f.roundMag v (2 ^ (1500 - f.unit)))

/-- The correctly rounded sine of a finite number. -/
def sinRounded (f : Fmt) (x : Flt) : Flt :=
  if f.mag x = 0 then x
  else
    let q := f.quadrant x
    f.ofFix (f.sign x != decide (2 ≤ q.1)) (if q.1 % 2 = 0 then sinFix q.2 else cosFix q.2)

/-- The correctly rounded cosine of a finite number. -/
def cosRounded (f : Fmt) (x : Flt) : Flt :=
  let q := f.quadrant x
  f.ofFix (q.1 == 1 || q.1 == 2) (if q.1 % 2 = 0 then cosFix q.2 else sinFix q.2)

/-- The terms `z + z³/3 + z⁵/5 + …` with 640 fraction bits. -/
def atanhSum (z2 : Nat) : (fuel k t : Nat) → Nat
  | 0, _, _ => 0
  | n + 1, k, t => t / k + atanhSum z2 n (k + 2) (t * z2 / 2 ^ 640)

/-- ln m with 640 fraction bits, for `m` in [1, 2] with 640 fraction bits. -/
def lnFix (m : Nat) : Nat :=
  let z := (m - 2 ^ 640) * 2 ^ 640 / (m + 2 ^ 640)
  2 * atanhSum (z * z / 2 ^ 640) 220 1 z

/-- The Taylor sum of e^t with 640 fraction bits. -/
def expSum (x : Nat) : (fuel k t : Nat) → Nat
  | 0, _, _ => 0
  | n + 1, k, t => t + expSum x n (k + 1) (t * x / 2 ^ 640 / k)

/-- Removes the approximation's error where the exact result is a short number: a value closer than 2^-300 to a number with
80 fraction bits is that number. -/
def snap (v : Nat) : Nat :=
  let lo := v % 2 ^ 560
  if lo < 2 ^ 340 then v - lo else if 2 ^ 560 - 2 ^ 340 < lo then v - lo + 2 ^ 560 else v

/-- The magnitude bits of the correctly rounded `b ^ y`, for `b` the scaled value of a positive finite number and `y` finite. -/
def powMag (f : Fmt) (b : Nat) (y : Flt) : Nat :=
  let l := Nat.log2 b
  let log2b : Int := ((l : Int) - f.unit) * (2 ^ 640 : Nat) + (lnFix (b * 2 ^ 640 / 2 ^ l) * 2 ^ 640 / lnFix (2 ^ 641) : Nat)
  let t : Int := f.value y * log2b / ((2 ^ f.unit : Nat) : Int)
  let k : Int := t / ((2 ^ 640 : Nat) : Int)
  let fr : Nat := (t % ((2 ^ 640 : Nat) : Int)).toNat
  if 4096 ≤ k then f.infMag
  else if k ≤ -4096 then 0
  else
    let v := snap (expSum (fr * lnFix (2 ^ 641) / 2 ^ 640) 160 1 (2 ^ 640))
    let e : Int := k + f.unit
    if 0 ≤ e then f.roundMag (v * 2 ^ e.toNat) (2 ^ 640) else f.roundMag v (2 ^ (640 + (-e).toNat))

/-- Whether a finite number is an integer. -/
def isInt (f : Fmt) (y : Flt) : Bool := f.scaled (f.mag y) % 2 ^ f.unit == 0

/-- Whether a finite number is an odd integer. -/
def isOddInt (f : Fmt) (y : Flt) : Bool := f.isInt y && f.scaled (f.mag y) / 2 ^ f.unit % 2 == 1

/-- The correctly rounded power, with the special cases of IEEE 754's pow. -/
def powRounded (f : Fmt) (x y : Flt) : Flt :=
  if f.mag y = 0 || f.eq x f.one then f.one
  else if f.isNaN x || f.isNaN y then f.nan 5 x y
  else if f.isInf y then
    if f.mag x = f.mag f.one then f.one
    else if decide (f.mag x < f.mag f.one) != f.sign y then f.pack false 0 else f.inf false
  else if f.sign x && !f.isInf x && f.mag x != 0 && !f.isInt y then f.nan 5 x y
  else
    let s := f.sign x && f.isOddInt y
    if f.mag x = 0 then if f.sign y then f.inf s else f.pack s 0
    else if f.isInf x then if f.sign y then f.pack s 0 else f.inf s
    else f.pack s (f.powMag (f.scaled (f.mag x)) y)

/-- SIN of the implementation. -/
def sin (f : Fmt) (l : Libm) (x : Flt) : Flt :=
  match l with
  | .correctlyRounded => if f.isFinite x then f.sinRounded x else f.nan 3 x x
  | .other => f.fit (Config.libmSin f x)

/-- COS of the implementation. -/
def cos (f : Fmt) (l : Libm) (x : Flt) : Flt :=
  match l with
  | .correctlyRounded => if f.isFinite x then f.cosRounded x else f.nan 4 x x
  | .other => f.fit (Config.libmCos f x)

/-- POW of the implementation. -/
def pow (f : Fmt) (l : Libm) (x y : Flt) : Flt :=
  match l with
  | .correctlyRounded => f.powRounded x y
  | .other => f.fit (Config.libmPow f x y)

end Fmt
end Sys2Proof
end

