-- ==== Sys2Proof/Machine/Params.lean ====
section
/-! DEFINITION. The default parameters (00_scope.md R8; 45_models.md R300), for either number format. Every numeral is the
spec's decimal, rounded once to FLT. -/

namespace Sys2Proof

/-- OUTGAIN's default 1 / AMP_RSCALE, with AMP_RSCALE at its default (45_models.md R300, D47). -/
def Params.outGainDefault (f : Fmt) : Flt := f.div f.one (f.lit 1 32768)

/-- BAR constants of 45_models.md R300. -/
def BarConsts.standard (f : Fmt) : BarConsts where
  km := f.lit 1 1
  outGain := Params.outGainDefault f
  times := ⟨f.lit 2 100, f.lit 5 1000, f.lit 9 10, f.lit 1 100⟩
  slopeBase := f.lit 10 1
  slopeStep := f.lit 9 1
  velBase := f.lit 3 100
  velStep := f.lit 1 10
  targStep := f.lit 2 100
  velDecay := f.lit 9995 10000
  targDecay := f.lit 995 1000

/-- CLAR constants of 45_models.md R300. -/
def ClarConsts.standard (f : Fmt) : ClarConsts where
  fmax := .srOver (f.lit 8 1)
  km := f.lit 1 1
  outGain := Params.outGainDefault f
  lagFactor := f.lit 5 10
  lagOffset := f.lit 15 10
  reedOffset := f.lit 7 10
  reedSlope := f.lit (-3) 10
  reflGain := f.lit 1 1
  reflCoef := f.lit 1 1
  reflFactor := f.lit (-95) 100
  breathBase := f.lit 55 100
  breathStep := f.lit 3 10

/-- FLUTE constants of 45_models.md R300. -/
def FluteConsts.standard (f : Fmt) : FluteConsts where
  fmax := .srOver (f.lit 8 1)
  outGain := Params.outGainDefault f
  lagOffset := f.lit 2 1
  poleBase := f.lit 7 10
  poleStep := f.lit 1 10
  poleRef := f.lit 22050 1
  lossGain := f.lit (-1) 1
  times := ⟨f.lit 5 1000, f.lit 1 100, f.lit 8 10, f.lit 10 1000⟩
  pressBase := f.lit 11 10
  pressStep := f.lit 2 10
  pressDiv := f.lit 8 10
  outFactor := f.lit 3 10

/-- BOWED constants of 45_models.md R300. -/
def BowedConsts.standard (f : Fmt) : BowedConsts where
  fmax := .srOver (f.lit 8 1)
  km := f.lit 1 1
  outGain := Params.outGainDefault f
  comp := f.lit 0 1
  poleBase := f.lit 6 10
  poleStep := f.lit 1 10
  poleRef := f.lit 22050 1
  lossGain := f.lit 95 100
  bodyFreq := f.lit 500 1
  bodyR := f.lit 85 100
  bodyGain := f.lit 2 10
  slopeBase := f.lit 5 1
  slopeStep := f.lit 4 1
  velBase := f.lit 3 100
  velStep := f.lit 2 10
  times := ⟨f.lit 2 100, f.lit 5 1000, f.lit 9 10, f.lit 1 100⟩

/-- BRASS constants of 45_models.md R300. -/
def BrassConsts.standard (f : Fmt) : BrassConsts where
  fmax := .srOver (f.lit 8 1)
  km := f.lit 2 1
  outGain := Params.outGainDefault f
  lagFactor := f.lit 2 1
  lagOffset := f.lit 3 1
  lipBase := f.lit 4 1
  lipScale := f.lit 2 1
  lipShift := f.lit 1 1
  lipR := f.lit 997 1000
  lipGain := f.lit 3 100
  times := ⟨f.lit 5 1000, f.lit 1 1000, f.lit 1 1, f.lit 10 1000⟩
  mouthFactor := f.lit 3 10
  boreFactor := f.lit 85 100

/-- The parameter values R8 names as defaults, in the format `f`. -/
def Params.standard (f : Fmt) : Params where
  fmt := f
  libm := .correctlyRounded
  maxCap := 65536
  dcbR := f.lit 99 100
  rateBasis := .kr
  ampRscale := f.lit 1 32768
  floorHz := f.lit 50 1
  bar := BarConsts.standard f
  clar := ClarConsts.standard f
  flute := FluteConsts.standard f
  bowed := BowedConsts.standard f
  brass := BrassConsts.standard f

/-- The same count for every class. -/
def Counts.each (k : Nat) : Counts := ⟨k, k, k, k, k, k, k, k, k, k, k, k, k, k, k, k, k, k, k⟩

/-- The default instance counts of R8: four of every class. -/
def Counts.standard : Counts := Counts.each 4

/-- The legal instance counts of R8: at most 64 of each class. -/
def Counts.legal (n : Counts) : Bool :=
  [n.dln, n.dla, n.dll, n.biq, n.opole, n.ozero, n.dcb, n.adsr, n.env, n.bow, n.reed, n.jet, n.noise, n.vib, n.bar, n.clar,
    n.flute, n.bowed, n.brass].all fun k => decide (k ≤ 64)

/-- The legal parameter values of R8 that R8 bounds: MAXCAP >= 2, 0 < DCB_R < 1, AMP_RSCALE > 0, FLOOR_HZ > 0. -/
def Params.legal (p : Params) : Bool :=
  decide (2 ≤ p.maxCap) && p.fmt.lt Flt.zero p.dcbR && p.fmt.lt p.dcbR p.fmt.one
    && p.fmt.lt Flt.zero p.ampRscale && p.fmt.lt Flt.zero p.floorHz

end Sys2Proof
end

