-- ==== Sys2Proof/Machine/Units.lean ====
section
/-! DEFINITION. The primitive units and the model instances as plain data, with their reset values
(10_state.md R38-R49; 70_reset_and_hazards.md R390). -/

namespace Sys2Proof.Machine

/-- Integer delay line (10_state.md R38). -/
structure Dln where
  /-- Capacity in words; 0 is never sized. -/
  cap : Nat
  w : Nat
  r : Nat
  last : Flt
  buf : List Flt
  deriving DecidableEq, Repr

/-- All-pass fractional delay line (10_state.md R39). -/
structure Dla where
  cap : Nat
  w : Nat
  r : Nat
  alpha : Flt
  coeff : Flt
  lastIn : Flt
  last : Flt
  buf : List Flt
  deriving DecidableEq, Repr

/-- Linear-interpolating delay line (10_state.md R40). -/
structure Dll where
  cap : Nat
  w : Nat
  r : Nat
  alpha : Flt
  last : Flt
  buf : List Flt
  deriving DecidableEq, Repr

/-- Biquad (10_state.md R41; two past outputs, 90_conflicts.md C1). -/
structure Biq where
  p0 : Flt
  p1 : Flt
  z0 : Flt
  z1 : Flt
  gain : Flt
  x1 : Flt
  x2 : Flt
  y1 : Flt
  y2 : Flt
  deriving DecidableEq, Repr

/-- One-pole filter (10_state.md R42). -/
structure Opole where
  gain : Flt
  coef : Flt
  sgain : Flt
  y1 : Flt
  deriving DecidableEq, Repr

/-- One-zero filter (10_state.md R42). -/
structure Ozero where
  gain : Flt
  coef : Flt
  sgain : Flt
  x1 : Flt
  last : Flt
  deriving DecidableEq, Repr

/-- DC blocker (10_state.md R43). -/
structure Dcb where
  x1 : Flt
  y1 : Flt
  deriving DecidableEq, Repr

/-- The phase tag of an envelope (10_state.md R44). -/
inductive Phase where
  | attack
  | release
  deriving DecidableEq, Repr

/-- The encoding of the tag "where a number is needed": Attack 0, Release 1 (10_state.md R44). -/
def Phase.code : Phase → Nat
  | .attack => 0
  | .release => 1

/-- ADSR envelope (10_state.md R44). -/
structure Adsr where
  value : Flt
  target : Flt
  rate : Flt
  phase : Phase
  attackRate : Flt
  decayRate : Flt
  releaseRate : Flt
  sustain : Flt
  deriving DecidableEq, Repr

/-- Breath envelope (10_state.md R45). -/
structure Env where
  value : Flt
  target : Flt
  rate : Flt
  phase : Phase
  deriving DecidableEq, Repr

/-- Bow table (10_state.md R46). -/
structure Bow where
  slope : Flt
  deriving DecidableEq, Repr

/-- Reed table (10_state.md R46). -/
structure Reed where
  offset : Flt
  slope : Flt
  deriving DecidableEq, Repr

/-- Jet table: it holds nothing (10_state.md R46). -/
structure Jet where
  deriving DecidableEq, Repr

/-- Noise generator (10_state.md R47). -/
structure Noise where
  last : Flt
  deriving DecidableEq, Repr

/-- Vibrato oscillator (10_state.md R48). -/
structure Vib where
  /-- Wavetable id; 0 is none. -/
  tab : U32
  len : Nat
  freq : Flt
  rate : Flt
  phase : Flt
  last : Flt
  deriving DecidableEq, Repr

def Dln.reset : Dln := ⟨0, 0, 0, Flt.zero, []⟩
def Dla.reset : Dla := ⟨0, 0, 0, Flt.zero, Flt.zero, Flt.zero, Flt.zero, []⟩
def Dll.reset : Dll := ⟨0, 0, 0, Flt.zero, Flt.zero, []⟩
def Biq.reset (f : Fmt) : Biq :=
  ⟨Flt.zero, Flt.zero, Flt.zero, Flt.zero, f.one, Flt.zero, Flt.zero, Flt.zero, Flt.zero⟩
def Opole.reset (f : Fmt) : Opole := ⟨f.one, Flt.zero, f.one, Flt.zero⟩
def Ozero.reset (f : Fmt) : Ozero := ⟨f.one, Flt.zero, f.one, Flt.zero, Flt.zero⟩
def Dcb.reset : Dcb := ⟨Flt.zero, Flt.zero⟩
def Adsr.reset : Adsr :=
  ⟨Flt.zero, Flt.zero, Flt.zero, .release, Flt.zero, Flt.zero, Flt.zero, Flt.zero⟩
def Env.reset : Env := ⟨Flt.zero, Flt.zero, Flt.zero, .release⟩
def Bow.reset (f : Fmt) : Bow := ⟨f.one⟩
def Reed.reset (f : Fmt) : Reed := ⟨Flt.zero, f.one⟩
def Jet.reset : Jet := ⟨⟩
def Noise.reset : Noise := ⟨Flt.zero⟩
def Vib.reset : Vib := ⟨0, 0, Flt.zero, Flt.zero, Flt.zero, Flt.zero⟩

/-- Life-cycle state of a model instance (44_models_common.md R270). -/
inductive MState where
  | idle
  | running
  | failed
  deriving DecidableEq, Repr

/-- What every model instance holds (10_state.md R49): the life-cycle state, the control registers, the caches of the dirty
check, the release counter, M.minF (44_models_common.md R274), and the i-rate controls as INIT read them (70_reset_and_hazards.md
R400). -/
structure Hdr where
  mstate : MState
  ctl : Vector Flt 16
  /-- Only the slots of the k-rate controls the model reads are used (R280). -/
  cache : Vector Flt 16
  counter : Int
  minF : Flt
  /-- The control registers as the last successful INIT read them. The rules of RENDER read the i-rate controls here, so that a
  change after INIT is ignored until the next one (R14, R271, R400; log 30). -/
  iCtl : Vector Flt 16
  deriving DecidableEq, Repr

def Hdr.reset : Hdr :=
  ⟨.idle, Vector.replicate 16 Flt.zero, Vector.replicate 16 Flt.zero, 0, Flt.zero, Vector.replicate 16 Flt.zero⟩

/-- Four like things, numbered 0 to 3: the branches of the bar. -/
structure Quad (α : Type) where
  k0 : α
  k1 : α
  k2 : α
  k3 : α
  deriving DecidableEq, Repr

/-- One branch of the bar: delay line d[k], biquad q[k] and mode gain gains[k] (45_models.md R301). -/
structure Branch where
  d : Dln
  q : Biq
  gain : Flt
  deriving DecidableEq, Repr

def Branch.reset (f : Fmt) : Branch := ⟨Dln.reset, Biq.reset f, Flt.zero⟩

/-- Banded-waveguide bar (45_models.md R301). -/
structure Bar where
  hdr : Hdr
  k : Quad Branch
  bw : Bow
  ad : Adsr
  maxVel : Flt
  bowTarg : Flt
  bowVel : Flt
  vEst : Flt
  lastTP : Flt
  deriving DecidableEq, Repr

/-- Clarinet (45_models.md R320). -/
structure Clar where
  hdr : Hdr
  dl : Dll
  oz : Ozero
  rd : Reed
  env : Env
  ns : Noise
  vb : Vib
  deriving DecidableEq, Repr

/-- Flute (45_models.md R330). -/
structure Flute where
  hdr : Hdr
  bore : Dll
  jet : Dll
  lp : Opole
  dc : Dcb
  jt : Jet
  ad : Adsr
  ns : Noise
  vb : Vib
  maxP : Flt
  deriving DecidableEq, Repr

/-- Bowed string (45_models.md R340). -/
structure Bowed where
  hdr : Hdr
  nut : Dll
  bridge : Dll
  lp : Opole
  body : Biq
  bw : Bow
  ad : Adsr
  vb : Vib
  base : Flt
  maxVel : Flt
  deriving DecidableEq, Repr

/-- Brass (45_models.md R348). -/
structure Brass where
  hdr : Hdr
  bore : Dla
  lip : Biq
  dc : Dcb
  ad : Adsr
  vb : Vib
  maxP : Flt
  deriving DecidableEq, Repr

/-- A model's private units and scalars at reset, around a given header (R390, R393). -/
def Bar.fresh (f : Fmt) (h : Hdr) : Bar where
  hdr := h
  k := ⟨Branch.reset f, Branch.reset f, Branch.reset f, Branch.reset f⟩
  bw := Bow.reset f
  ad := Adsr.reset
  maxVel := Flt.zero
  bowTarg := Flt.zero
  bowVel := Flt.zero
  vEst := Flt.zero
  lastTP := Flt.zero

/-- See `Bar.fresh`. -/
def Clar.fresh (f : Fmt) (h : Hdr) : Clar :=
  ⟨h, Dll.reset, Ozero.reset f, Reed.reset f, Env.reset, Noise.reset, Vib.reset⟩

/-- See `Bar.fresh`. -/
def Flute.fresh (f : Fmt) (h : Hdr) : Flute :=
  ⟨h, Dll.reset, Dll.reset, Opole.reset f, Dcb.reset, Jet.reset, Adsr.reset, Noise.reset, Vib.reset, Flt.zero⟩

/-- See `Bar.fresh`. -/
def Bowed.fresh (f : Fmt) (h : Hdr) : Bowed :=
  ⟨h, Dll.reset, Dll.reset, Opole.reset f, Biq.reset f, Bow.reset f, Adsr.reset, Vib.reset, Flt.zero, Flt.zero⟩

/-- See `Bar.fresh`. -/
def Brass.fresh (f : Fmt) (h : Hdr) : Brass :=
  ⟨h, Dla.reset, Biq.reset f, Dcb.reset, Adsr.reset, Vib.reset, Flt.zero⟩

def Bar.reset (f : Fmt) : Bar := Bar.fresh f Hdr.reset
def Clar.reset (f : Fmt) : Clar := Clar.fresh f Hdr.reset
def Flute.reset (f : Fmt) : Flute := Flute.fresh f Hdr.reset
def Bowed.reset (f : Fmt) : Bowed := Bowed.fresh f Hdr.reset
def Brass.reset (f : Fmt) : Brass := Brass.fresh f Hdr.reset

/-- The banks of primitive instances; the length of a bank is N_C of its class (00_scope.md R8; log 3). -/
structure Units where
  dln : List Dln
  dla : List Dla
  dll : List Dll
  biq : List Biq
  opole : List Opole
  ozero : List Ozero
  dcb : List Dcb
  adsr : List Adsr
  env : List Env
  bow : List Bow
  reed : List Reed
  jet : List Jet
  noise : List Noise
  vib : List Vib
  deriving DecidableEq, Repr

/-- The banks of model instances; the length of a bank is N_C of its class (R8; log 3). -/
structure Models where
  bar : List Bar
  clar : List Clar
  flute : List Flute
  bowed : List Bowed
  brass : List Brass
  deriving DecidableEq, Repr

/-- The same number of instances, every one at reset (R262, R390). -/
def Units.resetAll (f : Fmt) (u : Units) : Units where
  dln := List.replicate u.dln.length Dln.reset
  dla := List.replicate u.dla.length Dla.reset
  dll := List.replicate u.dll.length Dll.reset
  biq := List.replicate u.biq.length (Biq.reset f)
  opole := List.replicate u.opole.length (Opole.reset f)
  ozero := List.replicate u.ozero.length (Ozero.reset f)
  dcb := List.replicate u.dcb.length Dcb.reset
  adsr := List.replicate u.adsr.length Adsr.reset
  env := List.replicate u.env.length Env.reset
  bow := List.replicate u.bow.length (Bow.reset f)
  reed := List.replicate u.reed.length (Reed.reset f)
  jet := List.replicate u.jet.length Jet.reset
  noise := List.replicate u.noise.length Noise.reset
  vib := List.replicate u.vib.length Vib.reset

/-- The same number of instances, every one at reset (R262, R390). -/
def Models.resetAll (f : Fmt) (m : Models) : Models where
  bar := List.replicate m.bar.length (Bar.reset f)
  clar := List.replicate m.clar.length (Clar.reset f)
  flute := List.replicate m.flute.length (Flute.reset f)
  bowed := List.replicate m.bowed.length (Bowed.reset f)
  brass := List.replicate m.brass.length (Brass.reset f)

/-- The banks of `n` instances, a count for each primitive class, all at reset (00_scope.md R8). -/
def Units.ofCount (f : Fmt) (n : Counts) : Units where
  dln := List.replicate n.dln Dln.reset
  dla := List.replicate n.dla Dla.reset
  dll := List.replicate n.dll Dll.reset
  biq := List.replicate n.biq (Biq.reset f)
  opole := List.replicate n.opole (Opole.reset f)
  ozero := List.replicate n.ozero (Ozero.reset f)
  dcb := List.replicate n.dcb Dcb.reset
  adsr := List.replicate n.adsr Adsr.reset
  env := List.replicate n.env Env.reset
  bow := List.replicate n.bow (Bow.reset f)
  reed := List.replicate n.reed (Reed.reset f)
  jet := List.replicate n.jet Jet.reset
  noise := List.replicate n.noise Noise.reset
  vib := List.replicate n.vib Vib.reset

/-- The banks of `n` instances, a count for each model class, all at reset (00_scope.md R8). -/
def Models.ofCount (f : Fmt) (n : Counts) : Models where
  bar := List.replicate n.bar (Bar.reset f)
  clar := List.replicate n.clar (Clar.reset f)
  flute := List.replicate n.flute (Flute.reset f)
  bowed := List.replicate n.bowed (Bowed.reset f)
  brass := List.replicate n.brass (Brass.reset f)

end Sys2Proof.Machine
end

