-- ==== Sys2Proof/Machine/State.lean ====
section
/-! DEFINITION. The state of the machine as plain data (10_state.md R30-R49) and its value after reset
(70_reset_and_hazards.md R390). -/

namespace Sys2Proof.Machine

/-- What the host does to the block, one write a step (10_state.md R32; log 1). It lands between commands (20_memory.md R82). -/
inductive HostWrite where
  /-- A write to CMD: it issues one command (R100). -/
  | cmd (w : U32)
  /-- A write to A0. -/
  | a0 (v : Flt)
  /-- A write to A1. -/
  | a1 (v : Flt)
  /-- A write to A2. -/
  | a2 (v : Flt)
  /-- A write to A3. -/
  | a3 (v : Flt)
  /-- A write to IARG. -/
  | iarg (v : U32)
  /-- The host gives wavetable `id` these words; no words removes it (20_memory.md R74, R86). -/
  | table (id : U32) (words : List Flt)
  /-- The host asserts the reset input (R390). -/
  | reset
  deriving DecidableEq, Repr

/-- The state: the parameters (fixed), the interface registers and the host context, the units, the models, and the
host's side of the two ports. INVENTORY.md lists every field with its rule. -/
structure State where
  /-- The implementation parameters (00_scope.md R8): the model's own field, changed by no step (log 2). -/
  params : Params
  /-- SR (R31). -/
  sr : Flt
  /-- KR (R31). -/
  kr : Flt
  /-- CMD (R32): the last word the host wrote (log 22). -/
  cmd : U32
  a0 : Flt
  a1 : Flt
  a2 : Flt
  a3 : Flt
  iarg : U32
  y : Flt
  /-- STATUS (R33). -/
  status : U32
  units : Units
  models : Models
  /-- The host's wavetables: (id, words), ids rising, no id 0, no empty table (20_memory.md R74; log 14). -/
  tables : List (Nat × List Flt)
  /-- The host's output memory: (word index, word), indices rising (20_memory.md R76; log 13). -/
  out : List (Nat × Flt)
  /-- The draws NOISE_SRC is scripted to answer next; none scripted is a free draw (log 6). -/
  noiseIn : List Flt
  /-- How many free values have been drawn: the argument of the opaque constants of Config (log 29). -/
  free : Nat
  /-- Host writes that have not reached the block yet (log 1). -/
  pending : List HostWrite
  deriving DecidableEq, Repr

/-- Why a step could stop with a fault: no reason exists. "The block never traps" (60_exceptions.md R360): every error is a
STATUS bit of a next state. Nothing raises a fault; that is safe (log 20). -/
inductive Fault where
  deriving DecidableEq, Repr

/-- Why a step could be refused. -/
inductive Refusal where
  /-- An instruction without a meaning, by its mnemonic. `exec` would raise it for a constructor not modelled yet; every
  constructor has its meaning, so nothing raises it (safe). -/
  | notModelled (mnemonic : String)
  deriving DecidableEq, Repr

/-- What an instruction or a step answers. -/
abbrev Out := Host.Outcome State Fault Refusal

/-- The block after reset with the parameters `p` and the instance counts `n`; the host's side is empty (logs 1, 3, 6, 13, 14). -/
def State.resetWith (p : Params) (n : Counts) : State where
  params := p
  sr := Flt.zero
  kr := Flt.zero
  cmd := 0
  a0 := Flt.zero
  a1 := Flt.zero
  a2 := Flt.zero
  a3 := Flt.zero
  iarg := 0
  y := Flt.zero
  status := 0
  units := Units.ofCount p.fmt n
  models := Models.ofCount p.fmt n
  tables := []
  out := []
  noiseIn := []
  free := 0
  pending := []

/-- The machine right after reset (70_reset_and_hazards.md R390), with the default parameters of 00_scope.md R8: binary64,
four instances of every class. -/
def State.reset : State := State.resetWith (Params.standard .binary64) Counts.standard

end Sys2Proof.Machine
end

