-- ==== Sys2Proof/Machine/Operands.lean ====
section
/-! DEFINITION. How rules read their operands (30_encoding.md R105, R106): the zero extension of IARG, the conversions of an
FLT operand that rules share (lags, rates, envelope times), and what a rule may read beside its unit. -/

namespace Sys2Proof.Machine

/-- `zext_N(v)` (00_scope.md R13). -/
def zext {n : Nat} (v : BitVec n) : Int := (v.toNat : Int)

/-- `sext_N(v)` (00_scope.md R13): defined by the spec and used by no rule. -/
def sext {n : Nat} (v : BitVec n) : Int := v.toInt

/-- IARG as an integer (R106). -/
def State.iargNat (s : State) : Nat := (zext s.iarg).toNat

/-- `x > 0`, as rules ask it of SR, KR and the envelope basis (10_state.md R31). -/
def positive (f : Fmt) (x : Flt) : Bool := f.lt Flt.zero x

/-- What a rule reads beside its operands and its unit: the parameters, the host context and the wavetables. -/
structure Ctx where
  p : Params
  sr : Flt
  kr : Flt
  tables : List (Nat × List Flt)
  deriving DecidableEq, Repr

/-- The context commands run in. -/
def State.ctx (s : State) : Ctx := ⟨s.params, s.sr, s.kr, s.tables⟩

/-- The number format of the context. -/
abbrev Ctx.f (c : Ctx) : Fmt := c.p.fmt

/-- B, the rate basis of envelope times (42_envelopes.md R211). -/
def Ctx.basis (c : Ctx) : Flt :=
  match c.p.rateBasis with
  | .kr => c.kr
  | .sr => c.sr

/-- `RateOf(t)` (42_envelopes.md R211). -/
def Ctx.rateOf (c : Ctx) (t : Flt) : Flt :=
  if c.f.lt Flt.zero t then c.f.div c.f.one (c.f.mul t c.basis) else c.f.one

/-- An envelope rate operand: NaN is refused, a negative rate is replaced by its magnitude with WARN_RATE
(42_envelopes.md R213, R214, R221). -/
def rateOperand (f : Fmt) (r : Flt) : Res Flt :=
  if f.isNaN r then .raise 0 errOperand
  else if f.lt r Flt.zero then .ok warnRate (f.abs r)
  else .ok 0 r

/-- A lag operand of a line of capacity `cap` whose least lag is `lo` (40_delay_lines.md R132, R142, R152): NaN is refused,
a lag outside [lo, cap - 1] is clamped with WARN_CLAMP, first from above and then from below. The bounds are compared exactly.
`bound` is what the line makes of a clamped lag, which is an integer, and `keep` of a lag within the bounds. -/
def lagOperand {α : Type} (f : Fmt) (lag : Flt) (cap lo : Nat) (bound : Nat → α) (keep : Flt → α) : Res α :=
  if f.isNaN lag then .raise 0 errOperand
  else if f.gtNat lag (cap - 1) then .ok warnClamp (bound (Nat.max (cap - 1) lo))
  else if f.lt lag (f.fromNat lo) then .ok warnClamp (bound lo)
  else .ok 0 (keep lag)

end Sys2Proof.Machine
end

