-- ==== Sys2Proof/Machine/Ops.lean ====
section
/-! DEFINITION. The named operations over State: starting, completing and abandoning a command (10_state.md R34,
30_encoding.md R107), the wavetable port and the output port (20_memory.md R74, R76), the banks of instances, and the
shapes of a unit command. On this hardware `raise` stands where others take an exception (60_exceptions.md R360). -/

namespace Sys2Proof.Machine

/-! ### Starting, warning, abandoning -/

/-- The start of every command: CMD_FAIL is cleared (R107). -/
def State.start (s : State) : State := { s with status := s.status &&& ~~~cmdFail }

/-- `warn`: set sticky bits and continue (R34). -/
def State.warn (s : State) (w : U32) : State := { s with status := s.status ||| w }

/-- `raise E` on a whole command (R34): the command started, the warnings before the error stay set (R363), the error bit
and CMD_FAIL are set, nothing else changes. -/
def State.abandon (s : State) (w e : U32) : State := s.start.warn (w ||| e ||| cmdFail)

/-- A word that decodes to no command, or a command whose INST is not below N_C (R107, R108). -/
def State.illegal (s : State) : State := s.abandon 0 errIllegal

/-- `Y <- v`. -/
def State.setY (s : State) (v : Flt) : State := { s with y := v }

/-! ### Writing a bank -/

def State.putDln (s : State) (b : List Dln) : State := { s with units := { s.units with dln := b } }
def State.putDla (s : State) (b : List Dla) : State := { s with units := { s.units with dla := b } }
def State.putDll (s : State) (b : List Dll) : State := { s with units := { s.units with dll := b } }
def State.putBiq (s : State) (b : List Biq) : State := { s with units := { s.units with biq := b } }
def State.putOpole (s : State) (b : List Opole) : State := { s with units := { s.units with opole := b } }
def State.putOzero (s : State) (b : List Ozero) : State := { s with units := { s.units with ozero := b } }
def State.putDcb (s : State) (b : List Dcb) : State := { s with units := { s.units with dcb := b } }
def State.putAdsr (s : State) (b : List Adsr) : State := { s with units := { s.units with adsr := b } }
def State.putEnv (s : State) (b : List Env) : State := { s with units := { s.units with env := b } }
def State.putBow (s : State) (b : List Bow) : State := { s with units := { s.units with bow := b } }
def State.putReed (s : State) (b : List Reed) : State := { s with units := { s.units with reed := b } }
def State.putJet (s : State) (b : List Jet) : State := { s with units := { s.units with jet := b } }
def State.putNoise (s : State) (b : List Noise) : State := { s with units := { s.units with noise := b } }
def State.putVib (s : State) (b : List Vib) : State := { s with units := { s.units with vib := b } }
def State.putBar (s : State) (b : List Bar) : State := { s with models := { s.models with bar := b } }
def State.putClar (s : State) (b : List Clar) : State := { s with models := { s.models with clar := b } }
def State.putFlute (s : State) (b : List Flute) : State := { s with models := { s.models with flute := b } }
def State.putBowed (s : State) (b : List Bowed) : State := { s with models := { s.models with bowed := b } }
def State.putBrass (s : State) (b : List Brass) : State := { s with models := { s.models with brass := b } }

/-! ### Sorted association lists: the canonical form of the host's memories -/

/-- The value listed at `k`. -/
def Assoc.find {β : Type} (k : Nat) : List (Nat × β) → Option β
  | [] => none
  | (j, v) :: rest => if j = k then some v else Assoc.find k rest

/-- Insert or replace the value at `k`, keeping the keys rising. -/
def Assoc.insert {β : Type} (k : Nat) (v : β) : List (Nat × β) → List (Nat × β)
  | [] => [(k, v)]
  | (j, u) :: rest =>
    if k < j then (k, v) :: (j, u) :: rest
    else if k = j then (k, v) :: rest
    else (j, u) :: Assoc.insert k v rest

/-- Remove the value at `k`. -/
def Assoc.erase {β : Type} (k : Nat) : List (Nat × β) → List (Nat × β)
  | [] => []
  | (j, u) :: rest => if j = k then rest else (j, u) :: Assoc.erase k rest

/-- The keys rise strictly. -/
def Assoc.wf {β : Type} (m : List (Nat × β)) : Bool :=
  match m with
  | [] => true
  | (j, _) :: rest => rest.all (fun e => decide (j < e.1)) && Assoc.wf rest

/-! ### The wavetable port (20_memory.md R74, R75) -/

/-- `TableLen(id)`: 0 for id 0, for an id above 32 bits and for an id without a table (log 14). -/
def tableLen (tables : List (Nat × List Flt)) (id : Nat) : Nat :=
  if id = 0 ∨ 2 ^ 32 ≤ id then 0 else ((Assoc.find id tables).getD []).length

/-- `TableRead(id, i)` of a unit that captured the length `len`. Where the host kept its duty the table still has that
length and word `i` of it is read; where it did not, the word is free (R75, I18; log 7). The second part is the counter of
free values after the read. -/
def tableRead (f : Fmt) (tables : List (Nat × List Flt)) (id len i free : Nat) : Flt × Nat :=
  if tableLen tables id = len then (((Assoc.find id tables).getD []).getD i Flt.zero, free)
  else (f.fit (Config.staleWord free), free + 1)

/-- The tables canonical: ids rising, none 0, none above 32 bits, none empty. -/
def Tables.wf (tables : List (Nat × List Flt)) : Bool :=
  Assoc.wf tables && tables.all (fun e => decide (0 < e.1) && decide (e.1 < 2 ^ 32) && !e.2.isEmpty)

/-- The host installs, replaces or removes a wavetable (R74, R86); id 0 is never a table. -/
def Tables.put (f : Fmt) (id : U32) (words : List Flt) (tables : List (Nat × List Flt)) : List (Nat × List Flt) :=
  if id.toNat = 0 then tables
  else if words.isEmpty then Assoc.erase id.toNat tables
  else Assoc.insert id.toNat (words.map f.fit) tables

/-! ### The output port (20_memory.md R76) -/

/-- `OutWrite(n, v)`. -/
def outWrite (n : Nat) (v : Flt) (out : List (Nat × Flt)) : List (Nat × Flt) := Assoc.insert n v out

/-- The words `n, n + 1, …` written in ascending order, one for each sample (R76, R83). -/
def outBlock : (n : Nat) → List Flt → List (Nat × Flt) → List (Nat × Flt)
  | _, [], out => out
  | n, v :: vs, out => outBlock (n + 1) vs (outWrite n v out)

/-- The word of output memory at `n`; none where nothing has written (log 13). -/
def outRead (n : Nat) (out : List (Nat × Flt)) : Option Flt := Assoc.find n out

/-- Output memory canonical: indices rising. -/
abbrev Memory.wf (out : List (Nat × Flt)) : Bool := Assoc.wf out

/-- The host's view of output memory as bytes: FLT words one after another, each in the byte order HOST_ENDIAN
(20_memory.md R77; log 13). No command reads it. -/
def outByte (f : Fmt) (out : List (Nat × Flt)) (a : Nat) : Option (BitVec 8) :=
  let n := f.width / 8
  let k := if Config.hostLittleEndian then a % n else n - 1 - a % n
  (outRead (a / n) out).map (fun v => BitVec.ofNat 8 (v.toNat / 2 ^ (8 * k)))

/-! ### What rules of private units change beside their unit -/

/-- The effects a rule gathers while it runs inside another command: warnings, errors of private units, draws. -/
structure Fx where
  warns : U32
  /-- Error bits private units raised. -/
  raised : U32
  /-- The first error abandons the command, so nothing after it counts: inside INIT, and in the release step and the control
  update of a RENDER (60_exceptions.md R363; logs 11, 12). In the sample loop it is false: that loop raises no error (R361). -/
  strict : Bool
  noise : List Flt
  free : Nat
  deriving DecidableEq, Repr

/-- No effect yet. -/
def State.fx (s : State) (strict : Bool) : Fx := ⟨0, 0, strict, s.noiseIn, s.free⟩

/-- The draws taken, stored back. -/
def State.takeFx (s : State) (fx : Fx) : State := { s with noiseIn := fx.noise, free := fx.free }

/-- Whether the command has already been abandoned in a private unit. -/
def Fx.stopped (fx : Fx) : Bool := fx.strict && decide (fx.raised ≠ 0)

/-- A warning of a private unit. -/
def Fx.warn (fx : Fx) (w : U32) : Fx := if fx.stopped then fx else { fx with warns := fx.warns ||| w }

/-- An error of a private unit. It abandons the command, the first one alone counting; in the sample loop of a RENDER it only
abandons the private operation and shows no bit (R361; log 11). -/
def Fx.raise (fx : Fx) (e : U32) : Fx := if fx.strict && decide (fx.raised = 0) then { fx with raised := e } else fx

/-- The answer of a private unit's rule taken into the surrounding command (00_scope.md R13, 44_models_common.md R293): where the
rule raised, the unit `u` stays as it was. -/
def Fx.absorb {α : Type} (fx : Fx) (u : α) : Res α → α × Fx
  | .ok w a => (a, fx.warn w)
  | .raise w e => (u, (fx.warn w).raise e)

/-! ### The shapes of a unit command -/

/-- A command that reads a unit into Y and changes nothing else. -/
def unitRead {α : Type} (bank : List α) (i : Nat) (s : State) (out : α → Flt) : Out :=
  match bank[i]? with
  | none => .next s.illegal
  | some u => .next (s.start.setY (out u))

/-- A command that changes a unit and writes no result. -/
def unitSet {α : Type} (bank : List α) (put : State → List α → State) (i : Nat) (s : State) (op : α → Res α) : Out :=
  match bank[i]? with
  | none => .next s.illegal
  | some u =>
    match op u with
    | .raise w e => .next (s.abandon w e)
    | .ok w u' => .next (put (s.start.warn w) (bank.set i u'))

/-- A command that changes a unit and writes its result to Y. -/
def unitTick {α : Type} (bank : List α) (put : State → List α → State) (i : Nat) (s : State) (op : α → Res (Flt × α)) : Out :=
  match bank[i]? with
  | none => .next s.illegal
  | some u =>
    match op u with
    | .raise w e => .next (s.abandon w e)
    | .ok w r => .next ((put (s.start.warn w) (bank.set i r.2)).setY r.1)

/-- As `unitTick`, for a rule that draws free values: its answer carries the effects after it. -/
def unitDraw {α : Type} (bank : List α) (put : State → List α → State) (i : Nat) (s : State)
    (op : α → Fx → Res (Flt × α × Fx)) : Out :=
  match bank[i]? with
  | none => .next s.illegal
  | some u =>
    match op u (s.fx false) with
    | .raise w e => .next (s.abandon w e)
    | .ok w r => .next (((put (s.start.warn w) (bank.set i r.2.1)).takeFx r.2.2).setY r.1)

end Sys2Proof.Machine
end

