-- ==== Sys2Proof/Machine/Delay.lean ====
section
/-! DEFINITION. The delay lines DLN, DLA and DLL (40_delay_lines.md) and their commands. A unit's rule is a function of the
unit and its operands, used by the host's command and by the models' private units alike (44_models_common.md R293). -/

namespace Sys2Proof.Machine

/-- `(w - d) mod cap` (00_scope.md R11). -/
def backFrom (w : Nat) (d : Int) (cap : Nat) : Nat := (((w : Int) - d) % (cap : Int)).toNat

/-! ### Integer delay line -/

/-- dln.cfg with request `n` (R131): capacity n + 1, zeroed, delay n. -/
def Dln.cfg (p : Params) (n : Nat) : Res Dln :=
  if p.maxCap < n + 1 then .raise 0 errOperand
  else .ok 0 ⟨n + 1, 0, backFrom 0 n (n + 1), Flt.zero, List.replicate (n + 1) Flt.zero⟩

/-- dln.setdel (R132); a clamped lag is the integer it is clamped to. -/
def Dln.setdel (f : Fmt) (lag : Flt) (u : Dln) : Res Dln :=
  .require (decide (0 < u.cap)) errUnsized
    ((lagOperand f lag u.cap 0 Int.ofNat f.trunc).map fun d => { u with r := backFrom u.w d u.cap })

/-- The tick of a sized integer line (R133): the input is written before the output is read (20_memory.md R73). -/
def Dln.tick (x : Flt) (u : Dln) : Flt × Dln :=
  let buf := u.buf.set u.w x
  let v := buf.getD u.r Flt.zero
  (v, { u with buf := buf, w := (u.w + 1) % u.cap, r := (u.r + 1) % u.cap, last := v })

/-! ### All-pass fractional delay line -/

/-- `SetDelayAP(U, L)` (R142). -/
def Dla.place (f : Fmt) (l : Flt) (u : Dla) : Dla :=
  let p := f.wrap (f.add (f.sub (f.fromNat u.w) l) (f.lit 2 1)) u.cap
  let r := (f.floor p).toNat
  let a := f.sub (f.add f.one (f.fromNat r)) p
  let shift := f.lt a (f.lit 1 10)
  let a' := if shift then f.add a f.one else a
  { u with
    r := if shift then (r + 1) % u.cap else r
    alpha := a'
    coeff := f.div (f.sub f.one a') (f.add f.one a') }

/-- dla.cfg with request `n` (R141); the default lag is an integer taken to FLT (log 15). -/
def Dla.cfg (p : Params) (n : Nat) (u : Dla) : Res Dla :=
  if n < 2 ∨ p.maxCap < n + 1 then .raise 0 errOperand
  else
    .ok 0 (Dla.place p.fmt (p.fmt.fromNatDown n)
      { u with cap := n + 1, w := 0, buf := List.replicate (n + 1) Flt.zero, lastIn := Flt.zero, last := Flt.zero })

/-- dla.setdel (R142); a clamped lag is an integer taken to FLT (log 15). -/
def Dla.setdel (f : Fmt) (lag : Flt) (u : Dla) : Res Dla :=
  .require (decide (0 < u.cap)) errUnsized ((lagOperand f lag u.cap 2 f.fromNatDown id).map fun l => u.place f l)

/-- The tick of a sized all-pass line (R143). -/
def Dla.tick (f : Fmt) (x : Flt) (u : Dla) : Flt × Dla :=
  let buf := u.buf.set u.w x
  let t := buf.getD u.r Flt.zero
  let y := f.add (f.neg (f.mul u.coeff u.last)) (f.add u.lastIn (f.mul u.coeff t))
  (y, { u with buf := buf, w := (u.w + 1) % u.cap, r := (u.r + 1) % u.cap, lastIn := t, last := y })

/-! ### Linear fractional delay line -/

/-- `SetDelayLin(U, L)` (R152). -/
def Dll.place (f : Fmt) (l : Flt) (u : Dll) : Dll :=
  let p := f.wrap (f.sub (f.fromNat u.w) l) u.cap
  let r := (f.floor p).toNat
  { u with r := r, alpha := f.sub p (f.fromNat r) }

/-- dll.cfg with request `n` (R151); the default lag as in `Dla.cfg`. -/
def Dll.cfg (p : Params) (n : Nat) (u : Dll) : Res Dll :=
  if n < 1 ∨ p.maxCap < n + 1 then .raise 0 errOperand
  else
    .ok 0 (Dll.place p.fmt (p.fmt.fromNatDown n)
      { u with cap := n + 1, w := 0, buf := List.replicate (n + 1) Flt.zero, last := Flt.zero })

/-- dll.setdel (R152); a clamped lag as in `Dla.setdel`. -/
def Dll.setdel (f : Fmt) (lag : Flt) (u : Dll) : Res Dll :=
  .require (decide (0 < u.cap)) errUnsized ((lagOperand f lag u.cap 0 f.fromNatDown id).map fun l => u.place f l)

/-- The tick of a sized linear line (R153). -/
def Dll.tick (f : Fmt) (x : Flt) (u : Dll) : Flt × Dll :=
  let buf := u.buf.set u.w x
  let y := f.add (f.mul (buf.getD u.r Flt.zero) (f.sub f.one u.alpha))
    (f.mul (buf.getD ((u.r + 1) % u.cap) Flt.zero) u.alpha)
  (y, { u with buf := buf, w := (u.w + 1) % u.cap, r := (u.r + 1) % u.cap, last := y })

/-! ### The commands -/

/-- `dln.cfg` (R131). -/
def execDlnCfg (i : Nat) (s : State) : Out :=
  unitSet s.units.dln State.putDln i s fun _ => Dln.cfg s.params s.iargNat

/-- `dln.setdel` (R132). -/
def execDlnSetdel (i : Nat) (s : State) : Out :=
  unitSet s.units.dln State.putDln i s fun u => u.setdel s.params.fmt s.a0

/-- `dln.tick` (R130, R133). -/
def execDlnTick (i : Nat) (s : State) : Out :=
  unitTick s.units.dln State.putDln i s fun u => .require (decide (0 < u.cap)) errUnsized (.ok 0 (u.tick s.a0))

/-- `dln.last` (R134). -/
def execDlnLast (i : Nat) (s : State) : Out := unitRead s.units.dln i s fun u => u.last

/-- `dla.cfg` (R141). -/
def execDlaCfg (i : Nat) (s : State) : Out :=
  unitSet s.units.dla State.putDla i s fun u => u.cfg s.params s.iargNat

/-- `dla.setdel` (R142). -/
def execDlaSetdel (i : Nat) (s : State) : Out :=
  unitSet s.units.dla State.putDla i s fun u => u.setdel s.params.fmt s.a0

/-- `dla.tick` (R130, R143). -/
def execDlaTick (i : Nat) (s : State) : Out :=
  unitTick s.units.dla State.putDla i s fun u =>
    .require (decide (0 < u.cap)) errUnsized (.ok 0 (u.tick s.params.fmt s.a0))

/-- `dla.last` (R144). -/
def execDlaLast (i : Nat) (s : State) : Out := unitRead s.units.dla i s fun u => u.last

/-- `dll.cfg` (R151). -/
def execDllCfg (i : Nat) (s : State) : Out :=
  unitSet s.units.dll State.putDll i s fun u => u.cfg s.params s.iargNat

/-- `dll.setdel` (R152). -/
def execDllSetdel (i : Nat) (s : State) : Out :=
  unitSet s.units.dll State.putDll i s fun u => u.setdel s.params.fmt s.a0

/-- `dll.tick` (R130, R153). -/
def execDllTick (i : Nat) (s : State) : Out :=
  unitTick s.units.dll State.putDll i s fun u =>
    .require (decide (0 < u.cap)) errUnsized (.ok 0 (u.tick s.params.fmt s.a0))

/-- `dll.last` (R154). -/
def execDllLast (i : Nat) (s : State) : Out := unitRead s.units.dll i s fun u => u.last

end Sys2Proof.Machine
end

