-- ==== Sys2Proof/Machine/Envelopes.lean ====
section
/-! DEFINITION. The envelope generators ADSR and ENV (42_envelopes.md) and their commands. -/

namespace Sys2Proof.Machine

/-- `EnvStep` (R210): the value after one step toward the target, clamped exactly at it; equal or NaN, no change. -/
def envStep (f : Fmt) (value target rate : Flt) : Flt :=
  if f.lt value target then
    let v := f.add value rate
    if f.le target v then target else v
  else if f.lt target value then
    let v := f.sub value rate
    if f.le v target then target else v
  else value

/-! ### ADSR -/

/-- adsr.settimes (R211): the rates act at the next KEYON or KEYOFF. -/
def Adsr.settimes (c : Ctx) (attack decay sustain release : Flt) (u : Adsr) : Res Adsr :=
  .require (positive c.f c.basis) errState
    (.require (!(c.f.isNaN attack || c.f.isNaN decay || c.f.isNaN sustain || c.f.isNaN release)) errOperand
      (.ok 0
        { u with
          attackRate := c.rateOf attack
          decayRate := c.rateOf decay
          sustain := sustain
          releaseRate := c.rateOf release }))

/-- adsr.settarget (R212). -/
def Adsr.settarget (v : Flt) (u : Adsr) : Adsr := { u with target := v }

/-- adsr.setatk (R213). -/
def Adsr.setatk (f : Fmt) (r : Flt) (u : Adsr) : Res Adsr := (rateOperand f r).map fun r => { u with attackRate := r }

/-- adsr.setrel (R214). -/
def Adsr.setrel (f : Fmt) (r : Flt) (u : Adsr) : Res Adsr := (rateOperand f r).map fun r => { u with releaseRate := r }

/-- adsr.keyon (R215). -/
def Adsr.keyon (f : Fmt) (u : Adsr) : Adsr := { u with phase := .attack, target := f.one, rate := u.attackRate }

/-- adsr.keyoff (R216). -/
def Adsr.keyoff (u : Adsr) : Adsr := { u with phase := .release, target := Flt.zero, rate := u.releaseRate }

/-- adsr.tick (R217). -/
def Adsr.tick (f : Fmt) (u : Adsr) : Flt × Adsr :=
  let v := envStep f u.value u.target u.rate
  (v, { u with value := v })

/-! ### Breath envelope -/

/-- env.setrate (R221): it acts at the next tick. -/
def Env.setrate (f : Fmt) (r : Flt) (u : Env) : Res Env := (rateOperand f r).map fun r => { u with rate := r }

/-- env.settarget (R222). -/
def Env.settarget (v : Flt) (u : Env) : Env := { u with target := v }

/-- env.keyon (R223). -/
def Env.keyon (f : Fmt) (u : Env) : Env := { u with phase := .attack, target := f.one }

/-- env.keyoff (R224). -/
def Env.keyoff (u : Env) : Env := { u with phase := .release, target := Flt.zero }

/-- env.tick (R225). -/
def Env.tick (f : Fmt) (u : Env) : Flt × Env :=
  let v := envStep f u.value u.target u.rate
  (v, { u with value := v })

/-! ### The commands -/

/-- `adsr.settimes` (R211). -/
def execAdsrSettimes (i : Nat) (s : State) : Out :=
  unitSet s.units.adsr State.putAdsr i s fun u => u.settimes s.ctx s.a0 s.a1 s.a2 s.a3

/-- `adsr.settarget` (R212). -/
def execAdsrSettarget (i : Nat) (s : State) : Out :=
  unitSet s.units.adsr State.putAdsr i s fun u => .ok 0 (u.settarget s.a0)

/-- `adsr.setatk` (R213). -/
def execAdsrSetatk (i : Nat) (s : State) : Out :=
  unitSet s.units.adsr State.putAdsr i s fun u => u.setatk s.params.fmt s.a0

/-- `adsr.setrel` (R214). -/
def execAdsrSetrel (i : Nat) (s : State) : Out :=
  unitSet s.units.adsr State.putAdsr i s fun u => u.setrel s.params.fmt s.a0

/-- `adsr.keyon` (R215). -/
def execAdsrKeyon (i : Nat) (s : State) : Out :=
  unitSet s.units.adsr State.putAdsr i s fun u => .ok 0 (u.keyon s.params.fmt)

/-- `adsr.keyoff` (R216). -/
def execAdsrKeyoff (i : Nat) (s : State) : Out := unitSet s.units.adsr State.putAdsr i s fun u => .ok 0 u.keyoff

/-- `adsr.tick` (R217). -/
def execAdsrTick (i : Nat) (s : State) : Out :=
  unitTick s.units.adsr State.putAdsr i s fun u => .ok 0 (u.tick s.params.fmt)

/-- `adsr.last` (R218). -/
def execAdsrLast (i : Nat) (s : State) : Out := unitRead s.units.adsr i s fun u => u.value

/-- `env.setrate` (R221). -/
def execEnvSetrate (i : Nat) (s : State) : Out :=
  unitSet s.units.env State.putEnv i s fun u => u.setrate s.params.fmt s.a0

/-- `env.settarget` (R222). -/
def execEnvSettarget (i : Nat) (s : State) : Out :=
  unitSet s.units.env State.putEnv i s fun u => .ok 0 (u.settarget s.a0)

/-- `env.keyon` (R223). -/
def execEnvKeyon (i : Nat) (s : State) : Out :=
  unitSet s.units.env State.putEnv i s fun u => .ok 0 (u.keyon s.params.fmt)

/-- `env.keyoff` (R224). -/
def execEnvKeyoff (i : Nat) (s : State) : Out := unitSet s.units.env State.putEnv i s fun u => .ok 0 u.keyoff

/-- `env.tick` (R225). -/
def execEnvTick (i : Nat) (s : State) : Out :=
  unitTick s.units.env State.putEnv i s fun u => .ok 0 (u.tick s.params.fmt)

/-- `env.last` (R226). -/
def execEnvLast (i : Nat) (s : State) : Out := unitRead s.units.env i s fun u => u.value

end Sys2Proof.Machine
end

