-- ==== Sys2Proof/Machine/Filters.lean ====
section
/-! DEFINITION. The filters BIQ, OPOLE, OZERO and DCB (41_filters.md) and their commands. -/

namespace Sys2Proof.Machine

/-! ### Biquad -/

/-- biq.setfr (R171). -/
def Biq.setfr (c : Ctx) (freq rad : Flt) (u : Biq) : Res Biq :=
  .require (positive c.f c.sr) errState
    (.require (c.f.isFinite freq && c.f.isFinite rad) errOperand
      (.ok 0
        { u with
          p0 := c.f.mul (c.f.mul (c.f.lit 2 1) rad) (c.f.cos c.p.libm (c.f.div (c.f.mul c.f.twoPi freq) c.sr))
          p1 := c.f.neg (c.f.mul rad rad) }))

/-- biq.setegz (R172): zeros at z = 1 and z = -1. -/
def Biq.setegz (f : Fmt) (u : Biq) : Biq := { u with z0 := Flt.zero, z1 := f.lit (-1) 1 }

/-- biq.setgain (R173). -/
def Biq.setgain (g : Flt) (u : Biq) : Biq := { u with gain := g }

/-- biq.tick (R174): direct form I with the gain at the input. -/
def Biq.tick (f : Fmt) (x : Flt) (u : Biq) : Flt × Biq :=
  let xg := f.mul u.gain x
  let y := f.add (f.add (f.add (f.add xg (f.mul u.z0 u.x1)) (f.mul u.z1 u.x2)) (f.mul u.p0 u.y1)) (f.mul u.p1 u.y2)
  (y, { u with x2 := u.x1, x1 := xg, y2 := u.y1, y1 := y })

/-- biq.clear (R175). -/
def Biq.clear (u : Biq) : Biq := { u with x1 := Flt.zero, x2 := Flt.zero, y1 := Flt.zero, y2 := Flt.zero }

/-! ### One-pole and one-zero -/

/-- The one-pole's normalised scale g·(1 − |c|) (R180, R181; 90_conflicts.md C2). -/
def Opole.normalise (f : Fmt) (u : Opole) : Opole :=
  { u with sgain := f.mul u.gain (f.sub f.one (f.abs u.coef)) }

/-- opole.setgain (R180). -/
def Opole.setgain (f : Fmt) (g : Flt) (u : Opole) : Opole := Opole.normalise f { u with gain := g }

/-- opole.setcoef (R181). -/
def Opole.setcoef (f : Fmt) (c : Flt) (u : Opole) : Opole := Opole.normalise f { u with coef := c }

/-- opole.tick (R182). -/
def Opole.tick (f : Fmt) (x : Flt) (u : Opole) : Flt × Opole :=
  let y := f.add (f.mul u.sgain x) (f.mul u.coef u.y1)
  (y, { u with y1 := y })

/-- The one-zero's normalised scale g/(1 + |c|) (R185, R186). -/
def Ozero.normalise (f : Fmt) (u : Ozero) : Ozero :=
  { u with sgain := f.div u.gain (f.add f.one (f.abs u.coef)) }

/-- ozero.setgain (R185). -/
def Ozero.setgain (f : Fmt) (g : Flt) (u : Ozero) : Ozero := Ozero.normalise f { u with gain := g }

/-- ozero.setcoef (R186). -/
def Ozero.setcoef (f : Fmt) (c : Flt) (u : Ozero) : Ozero := Ozero.normalise f { u with coef := c }

/-- ozero.tick (R187). -/
def Ozero.tick (f : Fmt) (x : Flt) (u : Ozero) : Flt × Ozero :=
  let y := f.mul u.sgain (f.add (f.mul u.coef u.x1) x)
  (y, { u with x1 := x, last := y })

/-! ### DC blocker -/

/-- dcb.tick (R190); the pole is the parameter DCB_R. -/
def Dcb.tick (p : Params) (x : Flt) (u : Dcb) : Flt × Dcb :=
  let y := p.fmt.add (p.fmt.sub x u.x1) (p.fmt.mul p.dcbR u.y1)
  (y, ⟨x, y⟩)

/-! ### The commands -/

/-- `biq.setfr` (R171). -/
def execBiqSetfr (i : Nat) (s : State) : Out :=
  unitSet s.units.biq State.putBiq i s fun u => u.setfr s.ctx s.a0 s.a1

/-- `biq.setegz` (R172). -/
def execBiqSetegz (i : Nat) (s : State) : Out :=
  unitSet s.units.biq State.putBiq i s fun u => .ok 0 (u.setegz s.params.fmt)

/-- `biq.setgain` (R173). -/
def execBiqSetgain (i : Nat) (s : State) : Out :=
  unitSet s.units.biq State.putBiq i s fun u => .ok 0 (u.setgain s.a0)

/-- `biq.tick` (R174). -/
def execBiqTick (i : Nat) (s : State) : Out :=
  unitTick s.units.biq State.putBiq i s fun u => .ok 0 (u.tick s.params.fmt s.a0)

/-- `biq.clear` (R175). -/
def execBiqClear (i : Nat) (s : State) : Out := unitSet s.units.biq State.putBiq i s fun u => .ok 0 u.clear

/-- `biq.last` (R176). -/
def execBiqLast (i : Nat) (s : State) : Out := unitRead s.units.biq i s fun u => u.y1

/-- `opole.setgain` (R180). -/
def execOpoleSetgain (i : Nat) (s : State) : Out :=
  unitSet s.units.opole State.putOpole i s fun u => .ok 0 (u.setgain s.params.fmt s.a0)

/-- `opole.setcoef` (R181). -/
def execOpoleSetcoef (i : Nat) (s : State) : Out :=
  unitSet s.units.opole State.putOpole i s fun u => .ok 0 (u.setcoef s.params.fmt s.a0)

/-- `opole.tick` (R182). -/
def execOpoleTick (i : Nat) (s : State) : Out :=
  unitTick s.units.opole State.putOpole i s fun u => .ok 0 (u.tick s.params.fmt s.a0)

/-- `opole.last` (R183). -/
def execOpoleLast (i : Nat) (s : State) : Out := unitRead s.units.opole i s fun u => u.y1

/-- `ozero.setgain` (R185). -/
def execOzeroSetgain (i : Nat) (s : State) : Out :=
  unitSet s.units.ozero State.putOzero i s fun u => .ok 0 (u.setgain s.params.fmt s.a0)

/-- `ozero.setcoef` (R186). -/
def execOzeroSetcoef (i : Nat) (s : State) : Out :=
  unitSet s.units.ozero State.putOzero i s fun u => .ok 0 (u.setcoef s.params.fmt s.a0)

/-- `ozero.tick` (R187). -/
def execOzeroTick (i : Nat) (s : State) : Out :=
  unitTick s.units.ozero State.putOzero i s fun u => .ok 0 (u.tick s.params.fmt s.a0)

/-- `ozero.last` (R188). -/
def execOzeroLast (i : Nat) (s : State) : Out := unitRead s.units.ozero i s fun u => u.last

/-- `dcb.tick` (R190). -/
def execDcbTick (i : Nat) (s : State) : Out :=
  unitTick s.units.dcb State.putDcb i s fun u => .ok 0 (u.tick s.params s.a0)

/-- `dcb.last` (R191). -/
def execDcbLast (i : Nat) (s : State) : Out := unitRead s.units.dcb i s fun u => u.y1

end Sys2Proof.Machine
end

