-- ==== Sys2Proof/Machine/Tables.lean ====
section
/-! DEFINITION. The nonlinear tables BOW, REED and JET, the noise generator and the vibrato oscillator
(43_tables_noise_vibrato.md) and their commands. -/

namespace Sys2Proof.Machine

/-! ### Nonlinear tables -/

/-- bow.setslope (R240). -/
def Bow.setslope (v : Flt) (_ : Bow) : Bow := ⟨v⟩

/-- bow.lookup (R241): the fourth-power reciprocal of |x·slope| + 0.75, at most 1. -/
def Bow.lookup (f : Fmt) (x : Flt) (u : Bow) : Flt :=
  let a := f.add (f.abs (f.mul x u.slope)) (f.lit 75 100)
  let y := f.div f.one (f.mul (f.mul a a) (f.mul a a))
  if f.lt f.one y then f.one else y

/-- reed.setoffset (R243). -/
def Reed.setoffset (v : Flt) (u : Reed) : Reed := { u with offset := v }

/-- reed.setslope (R244). -/
def Reed.setslope (v : Flt) (u : Reed) : Reed := { u with slope := v }

/-- reed.lookup (R245). -/
def Reed.lookup (f : Fmt) (x : Flt) (u : Reed) : Flt := f.clamp (f.add u.offset (f.mul u.slope x)) (f.lit (-1) 1) f.one

/-- jet.lookup (R247). -/
def Jet.lookup (f : Fmt) (x : Flt) (_ : Jet) : Flt :=
  f.clamp (f.sub (f.mul (f.mul x x) x) x) (f.lit (-1) 1) f.one

/-! ### Noise -/

/-- A draw as R250 bounds it: a finite FLT in [-1, 1]; anything else NOISE_SRC may not answer, and it reads as +0 (log 6). -/
def legalDraw (f : Fmt) (v : Flt) : Flt := if f.le (f.abs v) f.one then f.fit v else Flt.zero

/-- `Draw()` (R250): the next scripted answer of NOISE_SRC, or a free value where none is scripted (log 6). -/
def draw (f : Fmt) (fx : Fx) : Flt × Fx :=
  match fx.noise with
  | v :: rest => (legalDraw f v, { fx with noise := rest })
  | [] => (legalDraw f (Config.noise fx.free), { fx with free := fx.free + 1 })

/-- noise.tick (R250). -/
def Noise.tick (f : Fmt) (_ : Noise) (fx : Fx) : Flt × Noise × Fx :=
  let d := draw f fx
  (d.1, ⟨d.1⟩, d.2)

/-! ### Vibrato -/

/-- The phase increment `(freq * FLT(len)) / SR` (R253, R254). -/
def Vib.rateFor (c : Ctx) (freq : Flt) (len : Nat) : Flt := c.f.div (c.f.mul freq (c.f.fromNat len)) c.sr

/-- vib.settab (R253). -/
def Vib.settab (c : Ctx) (id : Nat) (u : Vib) : Res Vib :=
  .require (decide (tableLen c.tables id ≠ 0)) errNotable
    (.ok 0
      { u with
        tab := BitVec.ofNat 32 id
        len := tableLen c.tables id
        phase := Flt.zero
        last := Flt.zero
        rate := if positive c.f c.sr then Vib.rateFor c u.freq (tableLen c.tables id) else u.rate })

/-- vib.setfreq (R254). -/
def Vib.setfreq (c : Ctx) (hz : Flt) (u : Vib) : Res Vib :=
  .require (positive c.f c.sr) errState
    (.require (c.f.isFinite hz) errOperand (.ok 0 { u with freq := hz, rate := Vib.rateFor c hz u.len }))

/-- vib.tick (R255): the phase advances and wraps, then the table is read at it with linear interpolation. -/
def Vib.tick (c : Ctx) (u : Vib) (fx : Fx) : Res (Flt × Vib × Fx) :=
  .require (decide (0 < u.len)) errState
    (let phase := c.f.wrap (c.f.add u.phase u.rate) u.len
     let i := (c.f.floor phase).toNat
     let x := c.f.sub phase (c.f.fromNat i)
     let a := tableRead c.f c.tables u.tab.toNat u.len i fx.free
     let b := tableRead c.f c.tables u.tab.toNat u.len ((i + 1) % u.len) a.2
     let v := c.f.add a.1 (c.f.mul x (c.f.sub b.1 a.1))
     .ok 0 (v, { u with phase := phase, last := v }, { fx with free := b.2 }))

/-- A vibrato tick of a model's private unit. INIT gave it a table, so `len` is not 0; in states no run reaches, where it is,
the unit stays as it is and the value is free (log 21). -/
def Vib.tickPrivate (c : Ctx) (u : Vib) (fx : Fx) : Flt × Vib × Fx :=
  match u.tick c fx with
  | .ok w r => (r.1, r.2.1, r.2.2.warn w)
  | .raise _ e => (c.f.fit (Config.staleWord fx.free), u, Fx.raise { fx with free := fx.free + 1 } e)

/-! ### The commands -/

/-- `bow.setslope` (R240). -/
def execBowSetslope (i : Nat) (s : State) : Out :=
  unitSet s.units.bow State.putBow i s fun u => .ok 0 (u.setslope s.a0)

/-- `bow.lookup` (R241). -/
def execBowLookup (i : Nat) (s : State) : Out := unitRead s.units.bow i s fun u => u.lookup s.params.fmt s.a0

/-- `reed.setoffset` (R243). -/
def execReedSetoffset (i : Nat) (s : State) : Out :=
  unitSet s.units.reed State.putReed i s fun u => .ok 0 (u.setoffset s.a0)

/-- `reed.setslope` (R244). -/
def execReedSetslope (i : Nat) (s : State) : Out :=
  unitSet s.units.reed State.putReed i s fun u => .ok 0 (u.setslope s.a0)

/-- `reed.lookup` (R245). -/
def execReedLookup (i : Nat) (s : State) : Out := unitRead s.units.reed i s fun u => u.lookup s.params.fmt s.a0

/-- `jet.lookup` (R247). -/
def execJetLookup (i : Nat) (s : State) : Out := unitRead s.units.jet i s fun u => u.lookup s.params.fmt s.a0

/-- `noise.tick` (R250). -/
def execNoiseTick (i : Nat) (s : State) : Out :=
  unitDraw s.units.noise State.putNoise i s fun u fx => .ok 0 (u.tick s.params.fmt fx)

/-- `noise.last` (R251). -/
def execNoiseLast (i : Nat) (s : State) : Out := unitRead s.units.noise i s fun u => u.last

/-- `vib.settab` (R253). -/
def execVibSettab (i : Nat) (s : State) : Out :=
  unitSet s.units.vib State.putVib i s fun u => u.settab s.ctx s.iargNat

/-- `vib.setfreq` (R254). -/
def execVibSetfreq (i : Nat) (s : State) : Out :=
  unitSet s.units.vib State.putVib i s fun u => u.setfreq s.ctx s.a0

/-- `vib.tick` (R255). -/
def execVibTick (i : Nat) (s : State) : Out :=
  unitDraw s.units.vib State.putVib i s fun u fx => u.tick s.ctx fx

/-- `vib.last` (R256). -/
def execVibLast (i : Nat) (s : State) : Out := unitRead s.units.vib i s fun u => u.last

end Sys2Proof.Machine
end

