-- ==== Sys2Proof/Machine/ModelCommon.lean ====
section
/-! DEFINITION. What the five instrument models share (44_models_common.md): control registers, buffer sizing, the dirty
check, the control update, INIT, RENDER, the release counter. A model is a `ModelKit`: the functions of 45_models.md. -/

namespace Sys2Proof.Machine

/-! ### Control registers (R271) -/

abbrev ctlAmp : Fin 16 := 0
abbrev ctlFreq : Fin 16 := 1
abbrev ctlLowFreq : Fin 16 := 2
abbrev ctlDur : Fin 16 := 3
abbrev ctlRelTime : Fin 16 := 4
abbrev ctlVibTab : Fin 16 := 5
abbrev ctlVibFreq : Fin 16 := 6
abbrev ctlVibAmt : Fin 16 := 7
abbrev ctlNoiseGain : Fin 16 := 8
/-- BAR and BOWED: BOWPRESS. -/
abbrev ctlBowPress : Fin 16 := 9
/-- CLAR: ATTACK. -/
abbrev ctlAttack : Fin 16 := 9
/-- FLUTE: JETRATIO. -/
abbrev ctlJetRatio : Fin 16 := 9
/-- BRASS: LIPTENSION. -/
abbrev ctlLipTension : Fin 16 := 9
/-- BAR: POSITION. -/
abbrev ctlPosition : Fin 16 := 10
/-- FLUTE: ENDREFL. -/
abbrev ctlEndRefl : Fin 16 := 10
/-- BOWED: BETA. -/
abbrev ctlBeta : Fin 16 := 10
/-- BAR: BOWTARGPOS. -/
abbrev ctlBowTargPos : Fin 16 := 11
/-- FLUTE: JETREFL. -/
abbrev ctlJetRefl : Fin 16 := 11
/-- BAR: TRACKVEL. -/
abbrev ctlTrackVel : Fin 16 := 12
/-- BAR: FBGAIN. -/
abbrev ctlFbGain : Fin 16 := 13
/-- BAR: INTEG. -/
abbrev ctlInteg : Fin 16 := 14

/-- `c[X]`: control register X of an instance. -/
def Hdr.c (h : Hdr) (x : Fin 16) : Flt := h.ctl.get x

/-- `c[X]` of an i-rate control in a rule of RENDER: the value INIT read (R14, R271; 70_reset_and_hazards.md R400; log 30). -/
def Hdr.ci (h : Hdr) (x : Fin 16) : Flt := h.iCtl.get x

/-- `changed(c)` (R280): the bit patterns of the control and of its cache differ, or the update is forced. -/
def Hdr.changed (h : Hdr) (all : Bool) (x : Fin 16) : Bool := all || h.ctl.get x != h.cache.get x

/-- The caches of the k-rate controls `ks` after an update (R280). -/
def Hdr.refresh (h : Hdr) (ks : List (Fin 16)) : Hdr :=
  { h with cache := ks.foldl (fun v x => v.set x.val (h.ctl.get x) x.isLt) h.cache }

/-! ### Derived inputs (R273-R275, R287, R294) -/

/-- ampN, the normalised amplitude (R273). -/
def ampN (c : Ctx) (h : Hdr) : Flt := c.f.mul (h.c ctlAmp) c.p.ampRscale

/-- The lowest frequency and its warning (R274): LOWFREQ, else FREQ, else FLOOR_HZ with WARN_FLOOR, capped at FMAX. -/
def lowestFrequency (c : Ctx) (h : Hdr) (fmax : Flt) : Flt × U32 :=
  let m : Flt × U32 :=
    if positive c.f (h.c ctlLowFreq) then (h.c ctlLowFreq, 0)
    else if positive c.f (h.c ctlFreq) then (h.c ctlFreq, 0)
    else (c.p.floorHz, warnFloor)
  (if c.f.lt fmax m.1 then fmax else m.1, m.2)

/-- Nm, the buffer request `trunc((Km * SR) / minF) + 4` (R275); none where the quotient is not finite (log 10). -/
def bufferRequest (c : Ctx) (km minF : Flt) : Option Int :=
  let q := c.f.div (c.f.mul km c.sr) minF
  if c.f.isFinite q then some (c.f.trunc q + 4) else none

/-- `CounterStart` (R287). -/
def counterStart (c : Ctx) (h : Hdr) : Int :=
  if positive c.f (h.c ctlDur) then
    c.f.trunc (c.f.mul (h.c ctlDur) c.kr) - c.f.trunc (c.f.mul (c.f.max (h.c ctlRelTime) Flt.zero) c.kr)
  else -1

/-- `FreqOf` (R294): FREQ clamped to [minF, FMAX], the lower bound last, with WARN_CLAMP for each clamp. -/
def freqOf (c : Ctx) (h : Hdr) (fmax : Flt) : Flt × U32 :=
  let high := c.f.lt fmax (h.c ctlFreq)
  let f1 := if high then fmax else h.c ctlFreq
  let low := c.f.lt f1 h.minF
  (if low then h.minF else f1, if high || low then warnClamp else 0)

/-- FMAX of CLAR, FLUTE, BOWED or BRASS from the model's constant (R294; 45_models.md R300; log 33). -/
def windFmax (b : FmaxConst) (c : Ctx) : Flt :=
  match b with
  | .srOver d => c.f.div c.sr d
  | .hertz v => v

/-- A private ADSR given its times and keyed on: the last actions of InitModel of BAR, FLUTE, BOWED and BRASS
(45_models.md R303, R331, R341, R349). -/
def Adsr.strike (c : Ctx) (t : AdsrTimes) (u : Adsr) (fx : Fx) : Adsr × Fx :=
  let a := fx.absorb u (u.settimes c t.attack t.decay t.sustain t.release)
  (a.1.keyon c.f, a.2)

/-- A loss filter's pole `base - (step * ref) / SR` (45_models.md R300, R331, R341). -/
def lossPole (c : Ctx) (base step ref : Flt) : Flt := c.f.sub base (c.f.div (c.f.mul step ref) c.sr)

/-- A private ADSR keyed off with a release rate taken from RELTIME, an i-rate control (log 30): the release action of FLUTE and
BRASS (45_models.md R336, R352). -/
def Adsr.letGo (c : Ctx) (h : Hdr) (u : Adsr) (fx : Fx) : Adsr × Fx :=
  let a := fx.absorb u (u.setrel c.f (c.rateOf (h.ci ctlRelTime)))
  (a.1.keyoff, a.2)

/-! ### A model -/

/-- One sample and what is left after it. -/
structure Smp (M : Type) where
  y : Flt
  m : M
  fx : Fx

/-- A model as 45_models.md gives it. -/
structure ModelKit (M : Type) where
  hdr : M → Hdr
  setHdr : Hdr → M → M
  /-- The k-rate controls the model reads (R271, R280). -/
  kRate : List (Fin 16)
  /-- Whether it owns a vibrato and so needs a table (R276, R291). -/
  needsTable : Bool
  km : Params → Flt
  fmax : Ctx → Flt
  /-- Private units and scalars at reset around a header (R276, R393). -/
  fresh : Fmt → Hdr → M
  /-- The private lines configured with a request, the private VIB given its table (R276). -/
  configure : Ctx → (n id : Nat) → M → Fx → M × Fx
  /-- InitModel. -/
  initModel : Ctx → M → Fx → M × Fx
  /-- The recompute actions; the flag is `all` (R284). -/
  recompute : Ctx → Bool → M → Fx → M × Fx
  /-- SampleStep. -/
  sample : Ctx → M → Fx → Smp M
  /-- ReleaseAction. -/
  release : Ctx → M → Fx → M × Fx

variable {M : Type}

/-- `ControlUpdate(M, all)` (R284): the recompute actions, then the caches. -/
def controlUpdate (k : ModelKit M) (c : Ctx) (all : Bool) (m : M) (fx : Fx) : M × Fx :=
  let r := k.recompute c all m fx
  (k.setHdr ((k.hdr r.1).refresh k.kRate) r.1, r.2)

/-- `ReleaseStep(M)` (R288): the counter counts down and the release action runs when it reaches exactly 0. -/
def releaseStep (k : ModelKit M) (c : Ctx) (m : M) (fx : Fx) : M × Fx :=
  let h := k.hdr m
  let m' := k.setHdr { h with counter := h.counter - 1 } m
  if h.counter - 1 = 0 then k.release c m' fx else (m', fx)

/-- `n` samples in order (R285). -/
def renderLoop (k : ModelKit M) (c : Ctx) : (n : Nat) → M → Fx → List Flt × M × Fx
  | 0, m, fx => ([], m, fx)
  | n + 1, m, fx =>
    let r := k.sample c m fx
    let rest := renderLoop k c n r.m r.fx
    (r.y :: rest.1, rest.2)

/-- What RENDER does before its samples: the release step, then the control update (R285). -/
def renderPrep (k : ModelKit M) (c : Ctx) (m : M) (fx : Fx) : M × Fx :=
  let a := releaseStep k c m fx
  controlUpdate k c false a.1 a.2

/-- The body of RENDER for a running instance (R285): release step, control update, samples. An error of the first two abandons
the command (60_exceptions.md R363); the sample loop raises none (R361; log 11). -/
def renderBody (k : ModelKit M) (c : Ctx) (n : Nat) (m : M) (fx : Fx) : Res (List Flt × M × Fx) :=
  let p := renderPrep k c m fx
  if p.2.raised ≠ 0 then .raise p.2.warns p.2.raised
  else
    let r := renderLoop k c n p.1 { p.2 with strict := false }
    .ok r.2.2.warns r

/-- The table id INIT reads: trunc(VIBTAB) (R276). -/
def tableIdOf (k : ModelKit M) (c : Ctx) (m : M) : Int := c.f.trunc ((k.hdr m).c ctlVibTab)

/-- INIT after its checks: the new note of an instance whose request `n` fits (R276). -/
def startNote (k : ModelKit M) (c : Ctx) (n id : Nat) (minF : Flt) (m : M) (fx : Fx) : M × Fx :=
  let m0 := k.fresh c.f { k.hdr m with minF := minF, iCtl := (k.hdr m).ctl }
  let a := k.configure c n id m0 fx
  let b := k.initModel c a.1 a.2
  let d := controlUpdate k c true b.1 b.2
  (k.setHdr { k.hdr d.1 with counter := counterStart c (k.hdr d.1), mstate := .running } d.1, d.2)

/-- INIT (R276): the running instance with its warnings, or the error that leaves the instance FAILED. A request below 0, which only a
Km or an FMAX other than those of 45_models.md R300 can give, is taken as the request 0 (log 32). -/
def initNote (k : ModelKit M) (c : Ctx) (m : M) (fx : Fx) : Res M :=
  if !(positive c.f c.sr && positive c.f c.kr) then .raise 0 errState
  else if k.needsTable && (decide (tableIdOf k c m < 0) || decide (tableLen c.tables (tableIdOf k c m).toNat = 0)) then
    .raise 0 errNotable
  else
    let lo := lowestFrequency c (k.hdr m) (k.fmax c)
    match bufferRequest c (k.km c.p) lo.1 with
    | none => .raise lo.2 errOperand
    | some n =>
      if (c.p.maxCap : Int) < n + 1 then .raise lo.2 errOperand
      else
        let r := startNote k c n.toNat (tableIdOf k c m).toNat lo.1 m fx
        if r.2.raised ≠ 0 then .raise (lo.2 ||| r.2.warns) r.2.raised
        else .ok (lo.2 ||| r.2.warns) r.1

/-! ### The shapes of the model commands -/

/-- `<m>.setctl` (R272). -/
def modelSetctl (k : ModelKit M) (bank : List M) (put : State → List M → State) (i : Nat) (s : State) : Out :=
  unitSet bank put i s fun m =>
    if h : s.iargNat < 16 then
      .require (s.params.fmt.isFinite s.a0) errOperand
        (.ok 0 (k.setHdr { k.hdr m with ctl := (k.hdr m).ctl.set s.iargNat s.a0 h } m))
    else .raise 0 errOperand

/-- `<m>.init` (R276): a failing INIT sets its error and leaves the instance FAILED. -/
def modelInit (k : ModelKit M) (bank : List M) (put : State → List M → State) (i : Nat) (s : State) : Out :=
  match bank[i]? with
  | none => .next s.illegal
  | some m =>
    match initNote k s.ctx m (s.fx true) with
    | .raise w e => .next (put (s.abandon w e) (bank.set i (k.setHdr { k.hdr m with mstate := .failed } m)))
    | .ok w m' => .next (put (s.start.warn w) (bank.set i m'))

/-- `<m>.render` (R285): IARG samples into output words 0, 1, …, or an error of its control update that abandons it. -/
def modelRender (k : ModelKit M) (bank : List M) (put : State → List M → State) (i : Nat) (s : State) : Out :=
  match bank[i]? with
  | none => .next s.illegal
  | some m =>
    if (k.hdr m).mstate = .running then
      match renderBody k s.ctx s.iargNat m (s.fx true) with
      | .raise w e => .next (s.abandon w e)
      | .ok w r =>
        let t := (put (s.start.warn w) (bank.set i r.2.1)).takeFx r.2.2
        .next { t with out := outBlock 0 r.1 t.out }
    else .next (s.abandon 0 errState)

/-- `<m>.release` (R289). -/
def modelRelease (k : ModelKit M) (bank : List M) (put : State → List M → State) (i : Nat) (s : State) : Out :=
  unitSet bank put i s fun m =>
    .require (decide ((k.hdr m).mstate = .running)) errState (.ok 0 (k.setHdr { k.hdr m with counter := 1 } m))

end Sys2Proof.Machine
end

