-- ==== Sys2Proof/Machine/Bar.lean ====
section
/-! DEFINITION. The banded-waveguide bar (45_models.md R301-R312). -/

namespace Sys2Proof.Machine

/-- The mode ratios 1, 2.756, 5.404, 8.933 (R300). -/
def barRatios (f : Fmt) : Quad Flt := ⟨f.lit 1 1, f.lit 2756 1000, f.lit 5404 1000, f.lit 8933 1000⟩

/-- FMAX of BAR: 1568 Hz (R294, R300). -/
def barFmax (c : Ctx) : Flt := c.f.lit 1568 1

/-- One branch tuned to the frequency `f` (R306). -/
def Branch.tune (c : Ctx) (f ratio : Flt) (b : Branch) (fx : Fx) : Branch × Fx :=
  let d := fx.absorb b.d (b.d.setdel c.f (c.f.div (c.f.div c.sr f) ratio))
  let rad := c.f.sub c.f.one (c.f.div (c.f.mul (c.f.mul f ratio) c.f.pi) c.sr)
  let q := d.2.absorb b.q (b.q.setfr c (c.f.mul f ratio) rad)
  let gain := c.f.div (c.f.sub c.f.one (c.f.mul rad rad)) (c.f.lit 2 1)
  ({ b with d := d.1, q := (((q.1.setegz c.f).setgain gain).clear) }, q.2)

/-- The four branches tuned in order (R306). -/
def Bar.tune (c : Ctx) (f : Flt) (m : Bar) (fx : Fx) : Bar × Fx :=
  let r := barRatios c.f
  let b0 := m.k.k0.tune c f r.k0 fx
  let b1 := m.k.k1.tune c f r.k1 b0.2
  let b2 := m.k.k2.tune c f r.k2 b1.2
  let b3 := m.k.k3.tune c f r.k3 b2.2
  ({ m with k := ⟨b0.1, b1.1, b2.1, b3.1⟩ }, b3.2)

/-- The mode gain of one branch for a strike or bow position (R307). -/
def Branch.place (c : Ctx) (pos ratio : Flt) (b : Branch) : Branch :=
  { b with gain := c.f.abs (c.f.sin c.p.libm (c.f.mul (c.f.mul c.f.pi pos) ratio)) }

/-- The four mode gains (R307). -/
def Bar.place (c : Ctx) (pos : Flt) (m : Bar) : Bar :=
  let r := barRatios c.f
  { m with k := ⟨m.k.k0.place c pos r.k0, m.k.k1.place c pos r.k1, m.k.k2.place c pos r.k2, m.k.k3.place c pos r.k3⟩ }

/-- The lines configured with request `n` (R276); BAR has no vibrato. -/
def Branch.configure (c : Ctx) (n : Nat) (b : Branch) (fx : Fx) : Branch × Fx :=
  let d := fx.absorb b.d (Dln.cfg c.p n)
  ({ b with d := d.1 }, d.2)

/-- See `Branch.configure`. -/
def Bar.configure (c : Ctx) (n _id : Nat) (m : Bar) (fx : Fx) : Bar × Fx :=
  let b0 := m.k.k0.configure c n fx
  let b1 := m.k.k1.configure c n b0.2
  let b2 := m.k.k2.configure c n b1.2
  let b3 := m.k.k3.configure c n b2.2
  ({ m with k := ⟨b0.1, b1.1, b2.1, b3.1⟩ }, b3.2)

/-- `InitModel_BAR` (R303). -/
def Bar.initModel (c : Ctx) (m : Bar) (fx : Fx) : Bar × Fx :=
  let a := m.ad.strike c c.p.bar.times fx
  ({ m with
     ad := a.1
     bowTarg := Flt.zero
     bowVel := Flt.zero
     vEst := Flt.zero
     lastTP := m.hdr.c ctlBowTargPos }, a.2)

/-- The recompute actions of BAR in order (R304, R306-R309). -/
def Bar.recompute (c : Ctx) (all : Bool) (m : Bar) (fx : Fx) : Bar × Fx :=
  let h := m.hdr
  let a : Bar × Fx :=
    if h.changed all ctlFreq then
      let f := freqOf c h (barFmax c)
      m.tune c f.1 (fx.warn f.2)
    else (m, fx)
  let m := if h.changed all ctlPosition then a.1.place c (h.c ctlPosition) else a.1
  let m :=
    if h.changed all ctlBowPress then
      { m with bw := m.bw.setslope (c.f.sub c.p.bar.slopeBase (c.f.mul c.p.bar.slopeStep (h.c ctlBowPress))) }
    else m
  let m :=
    if h.changed all ctlAmp then { m with maxVel := c.f.add c.p.bar.velBase (c.f.mul c.p.bar.velStep (ampN c h)) } else m
  let m :=
    if h.changed all ctlBowTargPos then
      { m with
        bowTarg := c.f.add m.bowTarg (c.f.mul c.p.bar.targStep (c.f.sub (h.c ctlBowTargPos) m.lastTP))
        lastTP := h.c ctlBowTargPos }
    else m
  (m, a.2)

/-- The velocity estimate: INTEG times the last one plus the sum of branch feedback (R310); INTEG is i-rate (log 30). -/
def Bar.estimate (c : Ctx) (m : Bar) : Flt :=
  let fb := m.hdr.c ctlFbGain
  let s := c.f.mul (m.hdr.ci ctlInteg) m.vEst
  let s := c.f.add s (c.f.mul fb m.k.k0.d.last)
  let s := c.f.add s (c.f.mul fb m.k.k1.d.last)
  let s := c.f.add s (c.f.mul fb m.k.k2.d.last)
  c.f.add s (c.f.mul fb m.k.k3.d.last)

/-- The bow drive of a sample (R310): velocity tracking where TRACKVEL, an i-rate control (log 30), is not 0, else the ADSR. -/
def Bar.drive (c : Ctx) (m : Bar) : Bar :=
  if c.f.eq (m.hdr.ci ctlTrackVel) Flt.zero then
    let a := m.ad.tick c.f
    { m with ad := a.2, bowVel := c.f.mul a.1 m.maxVel }
  else
    { m with
      bowVel := c.f.add (c.f.mul m.bowVel c.p.bar.velDecay) m.bowTarg
      bowTarg := c.f.mul m.bowTarg c.p.bar.targDecay }

/-- One branch fed with the bow input `x` (R310): the biquad takes x·gain plus the line's last output times FBGAIN, the line
takes the biquad's output. -/
def Branch.tick (c : Ctx) (fb x : Flt) (b : Branch) : Branch :=
  let q := b.q.tick c.f (c.f.add (c.f.mul x b.gain) (c.f.mul fb b.d.last))
  { b with q := q.2, d := (b.d.tick q.2.y1).2 }

/-- `SampleStep_BAR` (R310). -/
def Bar.sample (c : Ctx) (m : Bar) (fx : Fx) : Smp Bar :=
  let m := Bar.drive c { m with vEst := Bar.estimate c m }
  let fb := m.hdr.c ctlFbGain
  let x := c.f.sub m.bowVel m.vEst
  let x := c.f.mul x (m.bw.lookup c.f x)
  let x := c.f.div x (c.f.lit 4 1)
  let k : Quad Branch := ⟨m.k.k0.tick c fb x, m.k.k1.tick c fb x, m.k.k2.tick c fb x, m.k.k3.tick c fb x⟩
  let out := c.f.add (c.f.add (c.f.add (c.f.add Flt.zero k.k0.q.y1) k.k1.q.y1) k.k2.q.y1) k.k3.q.y1
  ⟨c.f.mul out c.p.bar.outGain, { m with k := k }, fx⟩

/-- `ReleaseAction_BAR` (R311). -/
def Bar.release (_ : Ctx) (m : Bar) (fx : Fx) : Bar × Fx := ({ m with ad := m.ad.keyoff }, fx)

/-- The bar model. -/
def barKit : ModelKit Bar where
  hdr := Bar.hdr
  setHdr h m := { m with hdr := h }
  kRate := [ctlAmp, ctlFreq, ctlBowPress, ctlPosition, ctlBowTargPos, ctlFbGain]
  needsTable := false
  km p := p.bar.km
  fmax := barFmax
  fresh := Bar.fresh
  configure := Bar.configure
  initModel := Bar.initModel
  recompute := Bar.recompute
  sample := Bar.sample
  release := Bar.release

/-- `bar.setctl` (R272). -/
def execBarSetctl (i : Nat) (s : State) : Out := modelSetctl barKit s.models.bar State.putBar i s

/-- `bar.init` (R276). -/
def execBarInit (i : Nat) (s : State) : Out := modelInit barKit s.models.bar State.putBar i s

/-- `bar.render` (R285). -/
def execBarRender (i : Nat) (s : State) : Out := modelRender barKit s.models.bar State.putBar i s

/-- `bar.release` (R289). -/
def execBarRelease (i : Nat) (s : State) : Out := modelRelease barKit s.models.bar State.putBar i s

end Sys2Proof.Machine
end

