-- ==== Sys2Proof/Machine/Bowed.lean ====
section
/-! DEFINITION. The bowed string (45_models.md R340-R346). -/

namespace Sys2Proof.Machine

/-- The two lines configured, the vibrato given its table (R276). -/
def Bowed.configure (c : Ctx) (n id : Nat) (m : Bowed) (fx : Fx) : Bowed × Fx :=
  let a := fx.absorb m.nut (m.nut.cfg c.p n)
  let b := a.2.absorb m.bridge (m.bridge.cfg c.p n)
  let v := b.2.absorb m.vb (m.vb.settab c id)
  ({ m with nut := a.1, bridge := b.1, vb := v.1 }, v.2)

/-- `InitModel_BOWED` (R341). -/
def Bowed.initModel (c : Ctx) (m : Bowed) (fx : Fx) : Bowed × Fx :=
  let q := fx.absorb m.body (m.body.setfr c c.p.bowed.bodyFreq c.p.bowed.bodyR)
  let a := m.ad.strike c c.p.bowed.times q.2
  ({ m with
     lp := (m.lp.setgain c.f c.p.bowed.lossGain).setcoef c.f
       (lossPole c c.p.bowed.poleBase c.p.bowed.poleStep c.p.bowed.poleRef)
     body := (q.1.setegz c.f).setgain c.p.bowed.bodyGain
     ad := a.1 }, a.2)

/-- Bowed tuning (R342): the base period split by BETA. -/
def Bowed.tune (c : Ctx) (m : Bowed) (fx : Fx) : Bowed × Fx :=
  let f := freqOf c m.hdr (windFmax c.p.bowed.fmax c)
  let base := c.f.sub (c.f.div c.sr f.1) c.p.bowed.comp
  let b := (fx.warn f.2).absorb m.bridge (m.bridge.setdel c.f (c.f.mul base (m.hdr.c ctlBeta)))
  let n := b.2.absorb m.nut (m.nut.setdel c.f (c.f.mul base (c.f.sub c.f.one (m.hdr.c ctlBeta))))
  ({ m with base := base, bridge := b.1, nut := n.1 }, n.2)

/-- The recompute actions of BOWED in order (R343). -/
def Bowed.recompute (c : Ctx) (all : Bool) (m : Bowed) (fx : Fx) : Bowed × Fx :=
  let h := m.hdr
  let a := if h.changed all ctlFreq || h.changed all ctlBeta then m.tune c fx else (m, fx)
  let m := a.1
  let m :=
    if h.changed all ctlBowPress then
      { m with bw := m.bw.setslope (c.f.sub c.p.bowed.slopeBase (c.f.mul c.p.bowed.slopeStep (h.c ctlBowPress))) }
    else m
  let m :=
    if h.changed all ctlAmp then
      { m with maxVel := c.f.add c.p.bowed.velBase (c.f.mul c.p.bowed.velStep (ampN c h)) }
    else m
  if h.changed all ctlVibFreq then
    let v := a.2.absorb m.vb (m.vb.setfreq c (h.c ctlVibFreq))
    ({ m with vb := v.1 }, v.2)
  else (m, a.2)

/-- The vibrato of a sample (R344): where VIBAMT is not 0 the vibrato ticks and moves the nut's lag. A NaN lag, which setdel
refuses, leaves the nut as it is and shows no bit (60_exceptions.md R361, R369; log 11). -/
def Bowed.vibrate (c : Ctx) (m : Bowed) (fx : Fx) : Bowed × Fx :=
  if c.f.eq (m.hdr.c ctlVibAmt) Flt.zero then (m, fx)
  else
    let v := m.vb.tickPrivate c fx
    let lag := c.f.add (c.f.mul m.base (c.f.sub c.f.one (m.hdr.c ctlBeta)))
      (c.f.mul (c.f.mul m.base (m.hdr.c ctlVibAmt)) v.1)
    let n := v.2.2.absorb m.nut (m.nut.setdel c.f lag)
    ({ m with vb := v.2.1, nut := n.1 }, n.2)

/-- `SampleStep_BOWED` (R344). -/
def Bowed.sample (c : Ctx) (m : Bowed) (fx : Fx) : Smp Bowed :=
  let e := m.ad.tick c.f
  let bv := c.f.mul m.maxVel e.1
  let l := m.lp.tick c.f m.bridge.last
  let br := c.f.neg l.1
  let nr := c.f.neg m.nut.last
  let dv := c.f.sub bv (c.f.add br nr)
  let nv := c.f.mul dv (m.bw.lookup c.f dv)
  let n := m.nut.tick c.f (c.f.add br nv)
  let b := m.bridge.tick c.f (c.f.add nr nv)
  let r := Bowed.vibrate c { m with ad := e.2, lp := l.2, nut := n.2, bridge := b.2 } fx
  let q := r.1.body.tick c.f r.1.bridge.last
  ⟨c.f.mul q.1 c.p.bowed.outGain, { r.1 with body := q.2 }, r.2⟩

/-- `ReleaseAction_BOWED` (R346). -/
def Bowed.release (_ : Ctx) (m : Bowed) (fx : Fx) : Bowed × Fx := ({ m with ad := m.ad.keyoff }, fx)

/-- The bowed string model. -/
def bowedKit : ModelKit Bowed where
  hdr := Bowed.hdr
  setHdr h m := { m with hdr := h }
  kRate := [ctlAmp, ctlFreq, ctlVibFreq, ctlVibAmt, ctlBowPress, ctlBeta]
  needsTable := true
  km p := p.bowed.km
  fmax c := windFmax c.p.bowed.fmax c
  fresh := Bowed.fresh
  configure := Bowed.configure
  initModel := Bowed.initModel
  recompute := Bowed.recompute
  sample := Bowed.sample
  release := Bowed.release

/-- `bowed.setctl` (R272). -/
def execBowedSetctl (i : Nat) (s : State) : Out := modelSetctl bowedKit s.models.bowed State.putBowed i s

/-- `bowed.init` (R276). -/
def execBowedInit (i : Nat) (s : State) : Out := modelInit bowedKit s.models.bowed State.putBowed i s

/-- `bowed.render` (R285). -/
def execBowedRender (i : Nat) (s : State) : Out := modelRender bowedKit s.models.bowed State.putBowed i s

/-- `bowed.release` (R289). -/
def execBowedRelease (i : Nat) (s : State) : Out := modelRelease bowedKit s.models.bowed State.putBowed i s

end Sys2Proof.Machine
end

