-- ==== Sys2Proof/Machine/Brass.lean ====
section
/-! DEFINITION. The brass (45_models.md R348-R352). -/

namespace Sys2Proof.Machine

/-- The bore configured, the vibrato given its table (R276). -/
def Brass.configure (c : Ctx) (n id : Nat) (m : Brass) (fx : Fx) : Brass × Fx :=
  let b := fx.absorb m.bore (m.bore.cfg c.p n)
  let v := b.2.absorb m.vb (m.vb.settab c id)
  ({ m with bore := b.1, vb := v.1 }, v.2)

/-- `InitModel_BRASS` (R349); the lip's zeros keep their reset value 0. -/
def Brass.initModel (c : Ctx) (m : Brass) (fx : Fx) : Brass × Fx :=
  let a := m.ad.strike c c.p.brass.times fx
  ({ m with lip := m.lip.setgain c.p.brass.lipGain, ad := a.1 }, a.2)

/-- The lip's frequency `f * POW(4, 2·LIPTENSION - 1)` (R350). -/
def Brass.lipFreq (c : Ctx) (f : Flt) (m : Brass) : Flt :=
  c.f.mul f
    (c.f.pow c.p.libm c.p.brass.lipBase
      (c.f.sub (c.f.mul c.p.brass.lipScale (m.hdr.c ctlLipTension)) c.p.brass.lipShift))

/-- Brass slide and lip tuning (R350): the slide follows FREQ, the lip FREQ or LIPTENSION. -/
def Brass.tune (c : Ctx) (all : Bool) (m : Brass) (fx : Fx) : Brass × Fx :=
  let f := freqOf c m.hdr (windFmax c.p.brass.fmax c)
  let fx := fx.warn f.2
  let b :=
    if m.hdr.changed all ctlFreq then
      fx.absorb m.bore
        (m.bore.setdel c.f (c.f.add (c.f.mul (c.f.div c.sr f.1) c.p.brass.lagFactor) c.p.brass.lagOffset))
    else (m.bore, fx)
  let q := b.2.absorb m.lip (m.lip.setfr c (Brass.lipFreq c f.1 m) c.p.brass.lipR)
  ({ m with bore := b.1, lip := q.1 }, q.2)

/-- The recompute actions of BRASS in order (R349, R350). -/
def Brass.recompute (c : Ctx) (all : Bool) (m : Brass) (fx : Fx) : Brass × Fx :=
  let h := m.hdr
  let a := if h.changed all ctlFreq || h.changed all ctlLipTension then m.tune c all fx else (m, fx)
  let m := a.1
  let m := if h.changed all ctlAmp then { m with maxP := ampN c h } else m
  if h.changed all ctlVibFreq then
    let v := a.2.absorb m.vb (m.vb.setfreq c (h.c ctlVibFreq))
    ({ m with vb := v.1 }, v.2)
  else (m, a.2)

/-- `SampleStep_BRASS` (R351). -/
def Brass.sample (c : Ctx) (m : Brass) (fx : Fx) : Smp Brass :=
  let e := m.ad.tick c.f
  let v := m.vb.tickPrivate c fx
  let b := c.f.add (c.f.mul m.maxP e.1) (c.f.mul (m.hdr.c ctlVibAmt) v.1)
  let mouth := c.f.mul c.p.brass.mouthFactor b
  let bp := c.f.mul c.p.brass.boreFactor m.bore.last
  let q := m.lip.tick c.f (c.f.sub mouth bp)
  let dd := c.f.mul q.1 q.1
  let dd := if c.f.lt c.f.one dd then c.f.one else dd
  let x := c.f.add (c.f.mul dd mouth) (c.f.mul (c.f.sub c.f.one dd) bp)
  let t := m.dc.tick c.p x
  let o := m.bore.tick c.f t.1
  ⟨c.f.mul o.1 c.p.brass.outGain, { m with ad := e.2, vb := v.2.1, lip := q.2, dc := t.2, bore := o.2 }, v.2.2⟩

/-- `ReleaseAction_BRASS` (R352). -/
def Brass.release (c : Ctx) (m : Brass) (fx : Fx) : Brass × Fx :=
  let a := m.ad.letGo c m.hdr fx
  ({ m with ad := a.1 }, a.2)

/-- The brass model. -/
def brassKit : ModelKit Brass where
  hdr := Brass.hdr
  setHdr h m := { m with hdr := h }
  kRate := [ctlAmp, ctlFreq, ctlVibFreq, ctlVibAmt, ctlLipTension]
  needsTable := true
  km p := p.brass.km
  fmax c := windFmax c.p.brass.fmax c
  fresh := Brass.fresh
  configure := Brass.configure
  initModel := Brass.initModel
  recompute := Brass.recompute
  sample := Brass.sample
  release := Brass.release

/-- `brass.setctl` (R272). -/
def execBrassSetctl (i : Nat) (s : State) : Out := modelSetctl brassKit s.models.brass State.putBrass i s

/-- `brass.init` (R276). -/
def execBrassInit (i : Nat) (s : State) : Out := modelInit brassKit s.models.brass State.putBrass i s

/-- `brass.render` (R285). -/
def execBrassRender (i : Nat) (s : State) : Out := modelRender brassKit s.models.brass State.putBrass i s

/-- `brass.release` (R289). -/
def execBrassRelease (i : Nat) (s : State) : Out := modelRelease brassKit s.models.brass State.putBrass i s

end Sys2Proof.Machine
end

