-- ==== Sys2Proof/Machine/Clarinet.lean ====
section
/-! DEFINITION. The clarinet (45_models.md R320-R326). -/

namespace Sys2Proof.Machine

/-- The bore configured, the vibrato given its table (R276). -/
def Clar.configure (c : Ctx) (n id : Nat) (m : Clar) (fx : Fx) : Clar × Fx :=
  let d := fx.absorb m.dl (m.dl.cfg c.p n)
  let v := d.2.absorb m.vb (m.vb.settab c id)
  ({ m with dl := d.1, vb := v.1 }, v.2)

/-- `InitModel_CLAR` (R321). -/
def Clar.initModel (c : Ctx) (m : Clar) (fx : Fx) : Clar × Fx :=
  let e := m.env.keyon c.f
  let e := fx.absorb e (e.setrate c.f (c.rateOf (m.hdr.c ctlAttack)))
  ({ m with
     rd := (m.rd.setoffset c.p.clar.reedOffset).setslope c.p.clar.reedSlope
     oz := (m.oz.setgain c.f c.p.clar.reflGain).setcoef c.f c.p.clar.reflCoef
     env := e.1 }, e.2)

/-- The recompute actions of CLAR in order (R322, R323). -/
def Clar.recompute (c : Ctx) (all : Bool) (m : Clar) (fx : Fx) : Clar × Fx :=
  let h := m.hdr
  let a : Clar × Fx :=
    if h.changed all ctlFreq then
      let f := freqOf c h (windFmax c.p.clar.fmax c)
      let lag := c.f.sub (c.f.div (c.f.mul c.p.clar.lagFactor c.sr) f.1) c.p.clar.lagOffset
      let d := (fx.warn f.2).absorb m.dl (m.dl.setdel c.f lag)
      ({ m with dl := d.1 }, d.2)
    else (m, fx)
  let m := a.1
  let m :=
    if h.changed all ctlAmp && decide (m.env.phase = .attack) then
      { m with env := m.env.settarget (c.f.add c.p.clar.breathBase (c.f.mul c.p.clar.breathStep (ampN c h))) }
    else m
  if h.changed all ctlVibFreq then
    let v := a.2.absorb m.vb (m.vb.setfreq c (h.c ctlVibFreq))
    ({ m with vb := v.1 }, v.2)
  else (m, a.2)

/-- `SampleStep_CLAR` (R324). -/
def Clar.sample (c : Ctx) (m : Clar) (fx : Fx) : Smp Clar :=
  let e := m.env.tick c.f
  let n := m.ns.tick c.f fx
  let b := c.f.add e.1 (c.f.mul (c.f.mul e.1 (m.hdr.c ctlNoiseGain)) n.1)
  let v := m.vb.tickPrivate c n.2.2
  let b := c.f.add b (c.f.mul (c.f.mul b (m.hdr.c ctlVibAmt)) v.1)
  let z := m.oz.tick c.f m.dl.last
  let pd := c.f.sub (c.f.mul c.p.clar.reflFactor z.1) b
  let d := m.dl.tick c.f (c.f.add b (c.f.mul pd (m.rd.lookup c.f pd)))
  ⟨c.f.mul d.1 c.p.clar.outGain, { m with env := e.2, ns := n.2.1, vb := v.2.1, oz := z.2, dl := d.2 }, v.2.2⟩

/-- `ReleaseAction_CLAR` (R326); RELTIME is i-rate (log 30). -/
def Clar.release (c : Ctx) (m : Clar) (fx : Fx) : Clar × Fx :=
  let e := fx.absorb m.env (m.env.setrate c.f (c.rateOf (m.hdr.ci ctlRelTime)))
  ({ m with env := e.1.keyoff }, e.2)

/-- The clarinet model. -/
def clarKit : ModelKit Clar where
  hdr := Clar.hdr
  setHdr h m := { m with hdr := h }
  kRate := [ctlAmp, ctlFreq, ctlVibFreq, ctlVibAmt, ctlNoiseGain]
  needsTable := true
  km p := p.clar.km
  fmax c := windFmax c.p.clar.fmax c
  fresh := Clar.fresh
  configure := Clar.configure
  initModel := Clar.initModel
  recompute := Clar.recompute
  sample := Clar.sample
  release := Clar.release

/-- `clar.setctl` (R272). -/
def execClarSetctl (i : Nat) (s : State) : Out := modelSetctl clarKit s.models.clar State.putClar i s

/-- `clar.init` (R276). -/
def execClarInit (i : Nat) (s : State) : Out := modelInit clarKit s.models.clar State.putClar i s

/-- `clar.render` (R285). -/
def execClarRender (i : Nat) (s : State) : Out := modelRender clarKit s.models.clar State.putClar i s

/-- `clar.release` (R289). -/
def execClarRelease (i : Nat) (s : State) : Out := modelRelease clarKit s.models.clar State.putClar i s

end Sys2Proof.Machine
end

