-- ==== Sys2Proof/Machine/Flute.lean ====
section
/-! DEFINITION. The flute (45_models.md R330-R336). -/

namespace Sys2Proof.Machine

/-- The two lines configured, the vibrato given its table (R276). -/
def Flute.configure (c : Ctx) (n id : Nat) (m : Flute) (fx : Fx) : Flute × Fx :=
  let b := fx.absorb m.bore (m.bore.cfg c.p n)
  let j := b.2.absorb m.jet (m.jet.cfg c.p n)
  let v := j.2.absorb m.vb (m.vb.settab c id)
  ({ m with bore := b.1, jet := j.1, vb := v.1 }, v.2)

/-- `InitModel_FLUTE` (R331). -/
def Flute.initModel (c : Ctx) (m : Flute) (fx : Fx) : Flute × Fx :=
  let a := m.ad.strike c c.p.flute.times fx
  ({ m with
     lp := (m.lp.setgain c.f c.p.flute.lossGain).setcoef c.f
       (lossPole c c.p.flute.poleBase c.p.flute.poleStep c.p.flute.poleRef)
     ad := a.1 }, a.2)

/-- Flute tuning (R332): the bore lag with the 1.5 overblowing factor, the jet lag as its JETRATIO part. -/
def Flute.tune (c : Ctx) (m : Flute) (fx : Fx) : Flute × Fx :=
  let f := freqOf c m.hdr (windFmax c.p.flute.fmax c)
  let l := c.f.sub (c.f.div (c.f.mul (c.f.lit 15 10) c.sr) f.1) c.p.flute.lagOffset
  let b := (fx.warn f.2).absorb m.bore (m.bore.setdel c.f l)
  let j := b.2.absorb m.jet (m.jet.setdel c.f (c.f.mul l (m.hdr.c ctlJetRatio)))
  ({ m with bore := b.1, jet := j.1 }, j.2)

/-- The recompute actions of FLUTE in order (R333). -/
def Flute.recompute (c : Ctx) (all : Bool) (m : Flute) (fx : Fx) : Flute × Fx :=
  let h := m.hdr
  let a := if h.changed all ctlFreq || h.changed all ctlJetRatio then m.tune c fx else (m, fx)
  let m := a.1
  let m :=
    if h.changed all ctlAmp then
      { m with
        maxP := c.f.div (c.f.add c.p.flute.pressBase (c.f.mul c.p.flute.pressStep (ampN c h))) c.p.flute.pressDiv }
    else m
  if h.changed all ctlVibFreq then
    let v := a.2.absorb m.vb (m.vb.setfreq c (h.c ctlVibFreq))
    ({ m with vb := v.1 }, v.2)
  else (m, a.2)

/-- `SampleStep_FLUTE` (R334). -/
def Flute.sample (c : Ctx) (m : Flute) (fx : Fx) : Smp Flute :=
  let e := m.ad.tick c.f
  let b := c.f.mul m.maxP e.1
  let n := m.ns.tick c.f fx
  let v := m.vb.tickPrivate c n.2.2
  let b := c.f.add b
    (c.f.mul b (c.f.add (c.f.mul (m.hdr.c ctlNoiseGain) n.1) (c.f.mul (m.hdr.c ctlVibAmt) v.1)))
  let l := m.lp.tick c.f m.bore.last
  let t := m.dc.tick c.p l.1
  let pd := c.f.sub b (c.f.mul (m.hdr.c ctlJetRefl) t.1)
  let j := m.jet.tick c.f pd
  let pd := m.jt.lookup c.f j.1
  let pd := c.f.add pd (c.f.mul (m.hdr.c ctlEndRefl) t.1)
  let o := m.bore.tick c.f pd
  let out := c.f.mul c.p.flute.outFactor o.1
  ⟨c.f.mul out c.p.flute.outGain,
    { m with ad := e.2, ns := n.2.1, vb := v.2.1, lp := l.2, dc := t.2, jet := j.2, bore := o.2 }, v.2.2⟩

/-- `ReleaseAction_FLUTE` (R336). -/
def Flute.release (c : Ctx) (m : Flute) (fx : Fx) : Flute × Fx :=
  let a := m.ad.letGo c m.hdr fx
  ({ m with ad := a.1 }, a.2)

/-- The flute model. -/
def fluteKit : ModelKit Flute where
  hdr := Flute.hdr
  setHdr h m := { m with hdr := h }
  kRate := [ctlAmp, ctlFreq, ctlVibFreq, ctlVibAmt, ctlNoiseGain, ctlJetRatio, ctlEndRefl, ctlJetRefl]
  needsTable := true
  km p := p.fmt.lit 15 10
  fmax c := windFmax c.p.flute.fmax c
  fresh := Flute.fresh
  configure := Flute.configure
  initModel := Flute.initModel
  recompute := Flute.recompute
  sample := Flute.sample
  release := Flute.release

/-- `flute.setctl` (R272). -/
def execFluteSetctl (i : Nat) (s : State) : Out := modelSetctl fluteKit s.models.flute State.putFlute i s

/-- `flute.init` (R276). -/
def execFluteInit (i : Nat) (s : State) : Out := modelInit fluteKit s.models.flute State.putFlute i s

/-- `flute.render` (R285). -/
def execFluteRender (i : Nat) (s : State) : Out := modelRender fluteKit s.models.flute State.putFlute i s

/-- `flute.release` (R289). -/
def execFluteRelease (i : Nat) (s : State) : Out := modelRelease fluteKit s.models.flute State.putFlute i s

end Sys2Proof.Machine
end

