-- ==== Sys2Proof/Machine/Sys.lean ====
section
/-! DEFINITION. Block control (43_tables_noise_vibrato.md R260-R263) and the block's reset input
(70_reset_and_hazards.md R390). -/

namespace Sys2Proof.Machine

/-- `sys.nop` (R260): only CMD_FAIL is cleared, by the start of the command. -/
def execSysNop (s : State) : Out := .next s.start

/-- `sys.clrstat` (R261). -/
def execSysClrstat (s : State) : Out := .next { s.start with status := 0 }

/-- Every unit, every model and STATUS at reset; SR, KR, A0-A3, IARG and Y kept (R262, R392). -/
def State.softReset (s : State) : State :=
  { s with
    units := s.units.resetAll s.params.fmt
    models := s.models.resetAll s.params.fmt
    status := 0 }

/-- `sys.sreset` (R262). -/
def execSysSreset (s : State) : Out := .next s.softReset

/-- `sys.setctx` (R263): IARG 0 writes SR, IARG 1 writes KR. -/
def execSysSetctx (s : State) : Out :=
  if 1 < s.iargNat then .next (s.abandon 0 errOperand)
  else if !(s.params.fmt.isFinite s.a0 && positive s.params.fmt s.a0) then .next (s.abandon 0 errOperand)
  else if s.iargNat = 0 then .next { s.start with sr := s.a0 }
  else .next { s.start with kr := s.a0 }

/-- The reset input (R390): a soft reset and the interface registers and the host context at their reset values. The
parameters are fixed and the host's memories and its further writes are not the block's (log 17). -/
def State.hardReset (s : State) : State :=
  { s.softReset with
    sr := Flt.zero
    kr := Flt.zero
    cmd := 0
    a0 := Flt.zero
    a1 := Flt.zero
    a2 := Flt.zero
    a3 := Flt.zero
    iarg := 0
    y := Flt.zero }

/-- A host write that issues no command: an operand register, a wavetable or the reset input (10_state.md R32; 20_memory.md
R74). A datum is stored in the format FLT (log 19). For CMD only the register is written here. -/
def State.hostWrite (s : State) : HostWrite → State
  | .cmd w => { s with cmd := w }
  | .a0 v => { s with a0 := s.params.fmt.fit v }
  | .a1 v => { s with a1 := s.params.fmt.fit v }
  | .a2 v => { s with a2 := s.params.fmt.fit v }
  | .a3 v => { s with a3 := s.params.fmt.fit v }
  | .iarg v => { s with iarg := v }
  | .table id words => { s with tables := Tables.put s.params.fmt id words s.tables }
  | .reset => s.hardReset

end Sys2Proof.Machine
end

