-- ==== Sys2Proof/Machine/Dispatch.lean ====
section
/-! DEFINITION. The meaning of every command: one arm per constructor of Instr (30_encoding.md R103). -/

namespace Sys2Proof.Machine

/-- The command `i` performed on `s`: its start (CMD_FAIL cleared, 30_encoding.md R107), its INST < N_C test, its rule. -/
def exec (i : Instr) (s : State) : Host.Outcome State Fault Refusal :=
  match i with
  | .sysNop => Sys2Proof.Machine.execSysNop s
  | .sysClrstat => Sys2Proof.Machine.execSysClrstat s
  | .sysSreset => Sys2Proof.Machine.execSysSreset s
  | .sysSetctx => Sys2Proof.Machine.execSysSetctx s
  | .dlnCfg n => Sys2Proof.Machine.execDlnCfg n s
  | .dlnSetdel n => Sys2Proof.Machine.execDlnSetdel n s
  | .dlnTick n => Sys2Proof.Machine.execDlnTick n s
  | .dlnLast n => Sys2Proof.Machine.execDlnLast n s
  | .dlaCfg n => Sys2Proof.Machine.execDlaCfg n s
  | .dlaSetdel n => Sys2Proof.Machine.execDlaSetdel n s
  | .dlaTick n => Sys2Proof.Machine.execDlaTick n s
  | .dlaLast n => Sys2Proof.Machine.execDlaLast n s
  | .dllCfg n => Sys2Proof.Machine.execDllCfg n s
  | .dllSetdel n => Sys2Proof.Machine.execDllSetdel n s
  | .dllTick n => Sys2Proof.Machine.execDllTick n s
  | .dllLast n => Sys2Proof.Machine.execDllLast n s
  | .biqSetfr n => Sys2Proof.Machine.execBiqSetfr n s
  | .biqSetegz n => Sys2Proof.Machine.execBiqSetegz n s
  | .biqSetgain n => Sys2Proof.Machine.execBiqSetgain n s
  | .biqTick n => Sys2Proof.Machine.execBiqTick n s
  | .biqClear n => Sys2Proof.Machine.execBiqClear n s
  | .biqLast n => Sys2Proof.Machine.execBiqLast n s
  | .opoleSetgain n => Sys2Proof.Machine.execOpoleSetgain n s
  | .opoleSetcoef n => Sys2Proof.Machine.execOpoleSetcoef n s
  | .opoleTick n => Sys2Proof.Machine.execOpoleTick n s
  | .opoleLast n => Sys2Proof.Machine.execOpoleLast n s
  | .ozeroSetgain n => Sys2Proof.Machine.execOzeroSetgain n s
  | .ozeroSetcoef n => Sys2Proof.Machine.execOzeroSetcoef n s
  | .ozeroTick n => Sys2Proof.Machine.execOzeroTick n s
  | .ozeroLast n => Sys2Proof.Machine.execOzeroLast n s
  | .dcbTick n => Sys2Proof.Machine.execDcbTick n s
  | .dcbLast n => Sys2Proof.Machine.execDcbLast n s
  | .adsrSettimes n => Sys2Proof.Machine.execAdsrSettimes n s
  | .adsrSettarget n => Sys2Proof.Machine.execAdsrSettarget n s
  | .adsrSetatk n => Sys2Proof.Machine.execAdsrSetatk n s
  | .adsrSetrel n => Sys2Proof.Machine.execAdsrSetrel n s
  | .adsrKeyon n => Sys2Proof.Machine.execAdsrKeyon n s
  | .adsrKeyoff n => Sys2Proof.Machine.execAdsrKeyoff n s
  | .adsrTick n => Sys2Proof.Machine.execAdsrTick n s
  | .adsrLast n => Sys2Proof.Machine.execAdsrLast n s
  | .envSetrate n => Sys2Proof.Machine.execEnvSetrate n s
  | .envSettarget n => Sys2Proof.Machine.execEnvSettarget n s
  | .envKeyon n => Sys2Proof.Machine.execEnvKeyon n s
  | .envKeyoff n => Sys2Proof.Machine.execEnvKeyoff n s
  | .envTick n => Sys2Proof.Machine.execEnvTick n s
  | .envLast n => Sys2Proof.Machine.execEnvLast n s
  | .bowSetslope n => Sys2Proof.Machine.execBowSetslope n s
  | .bowLookup n => Sys2Proof.Machine.execBowLookup n s
  | .reedSetoffset n => Sys2Proof.Machine.execReedSetoffset n s
  | .reedSetslope n => Sys2Proof.Machine.execReedSetslope n s
  | .reedLookup n => Sys2Proof.Machine.execReedLookup n s
  | .jetLookup n => Sys2Proof.Machine.execJetLookup n s
  | .noiseTick n => Sys2Proof.Machine.execNoiseTick n s
  | .noiseLast n => Sys2Proof.Machine.execNoiseLast n s
  | .vibSettab n => Sys2Proof.Machine.execVibSettab n s
  | .vibSetfreq n => Sys2Proof.Machine.execVibSetfreq n s
  | .vibTick n => Sys2Proof.Machine.execVibTick n s
  | .vibLast n => Sys2Proof.Machine.execVibLast n s
  | .barSetctl n => Sys2Proof.Machine.execBarSetctl n s
  | .barInit n => Sys2Proof.Machine.execBarInit n s
  | .barRender n => Sys2Proof.Machine.execBarRender n s
  | .barRelease n => Sys2Proof.Machine.execBarRelease n s
  | .clarSetctl n => Sys2Proof.Machine.execClarSetctl n s
  | .clarInit n => Sys2Proof.Machine.execClarInit n s
  | .clarRender n => Sys2Proof.Machine.execClarRender n s
  | .clarRelease n => Sys2Proof.Machine.execClarRelease n s
  | .fluteSetctl n => Sys2Proof.Machine.execFluteSetctl n s
  | .fluteInit n => Sys2Proof.Machine.execFluteInit n s
  | .fluteRender n => Sys2Proof.Machine.execFluteRender n s
  | .fluteRelease n => Sys2Proof.Machine.execFluteRelease n s
  | .bowedSetctl n => Sys2Proof.Machine.execBowedSetctl n s
  | .bowedInit n => Sys2Proof.Machine.execBowedInit n s
  | .bowedRender n => Sys2Proof.Machine.execBowedRender n s
  | .bowedRelease n => Sys2Proof.Machine.execBowedRelease n s
  | .brassSetctl n => Sys2Proof.Machine.execBrassSetctl n s
  | .brassInit n => Sys2Proof.Machine.execBrassInit n s
  | .brassRender n => Sys2Proof.Machine.execBrassRender n s
  | .brassRelease n => Sys2Proof.Machine.execBrassRelease n s

end Sys2Proof.Machine
end

