-- ==== Sys2Proof/Machine/Step.lean ====
section
/-! DEFINITION. One step: the next pending host write reaches the block (10_state.md R32, R36; log 1). A write to CMD issues
one command, which runs to completion in that step (20_memory.md R82). -/

namespace Sys2Proof.Machine

/-- A command word written to CMD (30_encoding.md R107). -/
def issue (w : U32) (s : State) : Host.Outcome State Fault Refusal :=
  match decode w with
  | .error _ => .next s.illegal
  | .ok i => exec i s

/-- One step. With no pending write the block is idle and holds all its state (60_exceptions.md R380). -/
def step (s : State) : Host.Outcome State Fault Refusal :=
  match s.pending with
  | [] => .next s
  | h :: rest =>
    let t := State.hostWrite { s with pending := rest } h
    match h with
    | .cmd w => issue w t
    | .a0 _ | .a1 _ | .a2 _ | .a3 _ | .iarg _ | .table _ _ | .reset => .next t

/-- `s` with the word placed where step fetches next: as the host's next write to CMD (log 1). -/
def State.withFetchWord (s : State) (nbits w : Nat) : State :=
  { s with pending := .cmd (BitVec.ofNat 32 (w % 2 ^ nbits)) :: s.pending }

end Sys2Proof.Machine
end

