-- ==== Sys2Proof/Safety.lean ====
section
/-! DEFINITION. What counts as a good state and a good step, in the terms the statements use: well-formed delay lines, sized
models, the canonical host memories, and which commands may change what. -/

namespace Sys2Proof.Machine

/-! ### Good states -/

/-- A delay line's indices and buffer (10_state.md R38; 20_memory.md R71, R72): the buffer holds cap words, the capacity is at
most MAXCAP, and the indices are below it; an unsized line has them at 0. -/
abbrev LineWf (maxCap cap w r : Nat) (buf : List Flt) : Prop :=
  buf.length = cap ∧ cap ≤ maxCap ∧ (cap = 0 → w = 0 ∧ r = 0) ∧ (0 < cap → w < cap ∧ r < cap)

abbrev Dln.Wf (mc : Nat) (u : Dln) : Prop := LineWf mc u.cap u.w u.r u.buf
abbrev Dla.Wf (mc : Nat) (u : Dla) : Prop := LineWf mc u.cap u.w u.r u.buf
abbrev Dll.Wf (mc : Nat) (u : Dll) : Prop := LineWf mc u.cap u.w u.r u.buf

/-- A vibrato oscillator's phase is in [0, len) (10_state.md R48). -/
abbrev Vib.Wf (f : Fmt) (u : Vib) : Prop :=
  (u.len = 0 → u.phase = Flt.zero) ∧ (0 < u.len → f.inRange u.phase u.len = true)

/-- A model instance that is RUNNING has its private lines sized and its vibrato loaded (44_models_common.md R276, R293). -/
abbrev Sized (h : Hdr) (caps : List Nat) : Prop := h.mstate = .running → ∀ n ∈ caps, 0 < n

abbrev Bar.Wf (mc : Nat) (m : Bar) : Prop :=
  m.k.k0.d.Wf mc ∧ m.k.k1.d.Wf mc ∧ m.k.k2.d.Wf mc ∧ m.k.k3.d.Wf mc
    ∧ Sized m.hdr [m.k.k0.d.cap, m.k.k1.d.cap, m.k.k2.d.cap, m.k.k3.d.cap]

abbrev Clar.Wf (f : Fmt) (mc : Nat) (m : Clar) : Prop :=
  m.dl.Wf mc ∧ m.vb.Wf f ∧ Sized m.hdr [m.dl.cap, m.vb.len]

abbrev Flute.Wf (f : Fmt) (mc : Nat) (m : Flute) : Prop :=
  m.bore.Wf mc ∧ m.jet.Wf mc ∧ m.vb.Wf f ∧ Sized m.hdr [m.bore.cap, m.jet.cap, m.vb.len]

abbrev Bowed.Wf (f : Fmt) (mc : Nat) (m : Bowed) : Prop :=
  m.nut.Wf mc ∧ m.bridge.Wf mc ∧ m.vb.Wf f ∧ Sized m.hdr [m.nut.cap, m.bridge.cap, m.vb.len]

abbrev Brass.Wf (f : Fmt) (mc : Nat) (m : Brass) : Prop :=
  m.bore.Wf mc ∧ m.vb.Wf f ∧ Sized m.hdr [m.bore.cap, m.vb.len]

/-- Every delay line and vibrato of the machine is well formed, and every RUNNING model is sized. -/
abbrev State.UnitsWf (s : State) : Prop :=
  (∀ u ∈ s.units.dln, u.Wf s.params.maxCap) ∧ (∀ u ∈ s.units.dla, u.Wf s.params.maxCap)
    ∧ (∀ u ∈ s.units.dll, u.Wf s.params.maxCap) ∧ (∀ u ∈ s.units.vib, u.Wf s.params.fmt)
    ∧ (∀ m ∈ s.models.bar, m.Wf s.params.maxCap) ∧ (∀ m ∈ s.models.clar, m.Wf s.params.fmt s.params.maxCap)
    ∧ (∀ m ∈ s.models.flute, m.Wf s.params.fmt s.params.maxCap)
    ∧ (∀ m ∈ s.models.bowed, m.Wf s.params.fmt s.params.maxCap)
    ∧ (∀ m ∈ s.models.brass, m.Wf s.params.fmt s.params.maxCap)

/-- The reserved STATUS bits read 0 (10_state.md R33). -/
abbrev State.StatusWf (s : State) : Prop := s.status &&& ~~~statusDefined = 0#32

/-- The host's memories in their canonical form (logs 13, 14). -/
abbrev State.MemoryWf (s : State) : Prop := Memory.wf s.out = true ∧ Tables.wf s.tables = true

/-- SR and KR are unset or finite and > 0 (10_state.md R31). -/
abbrev State.ContextWf (s : State) : Prop :=
  (s.sr = Flt.zero ∨ (s.params.fmt.isFinite s.sr = true ∧ positive s.params.fmt s.sr = true))
    ∧ (s.kr = Flt.zero ∨ (s.params.fmt.isFinite s.kr = true ∧ positive s.params.fmt s.kr = true))

/-! ### The instances of a class (30_encoding.md R104) -/

/-- N_C of the class with this CLASS number; SYS has no instances. -/
def State.instances (s : State) : (cls : Nat) → Nat
  | 1 => s.units.dln.length
  | 2 => s.units.dla.length
  | 3 => s.units.dll.length
  | 4 => s.units.biq.length
  | 5 => s.units.opole.length
  | 6 => s.units.ozero.length
  | 7 => s.units.dcb.length
  | 8 => s.units.adsr.length
  | 9 => s.units.env.length
  | 10 => s.units.bow.length
  | 11 => s.units.reed.length
  | 12 => s.units.jet.length
  | 13 => s.units.noise.length
  | 14 => s.units.vib.length
  | 16 => s.models.bar.length
  | 17 => s.models.clar.length
  | 18 => s.models.flute.length
  | 19 => s.models.bowed.length
  | 20 => s.models.brass.length
  | _ => 0

/-- Instance `j` of the class `cls` is the same in both states. -/
def State.sameInstance (s t : State) (cls j : Nat) : Prop :=
  match cls with
  | 1 => t.units.dln[j]? = s.units.dln[j]?
  | 2 => t.units.dla[j]? = s.units.dla[j]?
  | 3 => t.units.dll[j]? = s.units.dll[j]?
  | 4 => t.units.biq[j]? = s.units.biq[j]?
  | 5 => t.units.opole[j]? = s.units.opole[j]?
  | 6 => t.units.ozero[j]? = s.units.ozero[j]?
  | 7 => t.units.dcb[j]? = s.units.dcb[j]?
  | 8 => t.units.adsr[j]? = s.units.adsr[j]?
  | 9 => t.units.env[j]? = s.units.env[j]?
  | 10 => t.units.bow[j]? = s.units.bow[j]?
  | 11 => t.units.reed[j]? = s.units.reed[j]?
  | 12 => t.units.jet[j]? = s.units.jet[j]?
  | 13 => t.units.noise[j]? = s.units.noise[j]?
  | 14 => t.units.vib[j]? = s.units.vib[j]?
  | 16 => t.models.bar[j]? = s.models.bar[j]?
  | 17 => t.models.clar[j]? = s.models.clar[j]?
  | 18 => t.models.flute[j]? = s.models.flute[j]?
  | 19 => t.models.bowed[j]? = s.models.bowed[j]?
  | 20 => t.models.brass[j]? = s.models.brass[j]?
  | _ => True

end Sys2Proof.Machine

namespace Sys2Proof

/-- The CLASS and FUNC a rule gives a command (30_encoding.md R102, R103). -/
abbrev Instr.HasCode (i : Instr) (cls fn : Nat) : Prop := i.cls = cls ∧ i.fn = fn

/-- The commands whose rule writes Y (30_encoding.md R103, column "writes Y"). -/
def Instr.writesY : Instr → Bool
  | .dlnTick _ | .dlnLast _ | .dlaTick _ | .dlaLast _ | .dllTick _ | .dllLast _ => true
  | .biqTick _ | .biqLast _ | .opoleTick _ | .opoleLast _ | .ozeroTick _ | .ozeroLast _ | .dcbTick _ | .dcbLast _ => true
  | .adsrTick _ | .adsrLast _ | .envTick _ | .envLast _ => true
  | .bowLookup _ | .reedLookup _ | .jetLookup _ | .noiseTick _ | .noiseLast _ | .vibTick _ | .vibLast _ => true
  | _ => false

/-- The `<m>.init` commands. -/
def Instr.isInit : Instr → Bool
  | .barInit _ | .clarInit _ | .fluteInit _ | .bowedInit _ | .brassInit _ => true
  | _ => false

/-- The `<m>.render` commands. -/
def Instr.isRender : Instr → Bool
  | .barRender _ | .clarRender _ | .fluteRender _ | .bowedRender _ | .brassRender _ => true
  | _ => false

end Sys2Proof

namespace Sys2Proof.Machine

/-! ### Shapes the statements use -/

/-- A command whose only effect so far is on STATUS: CMD_FAIL (bit 15) cleared as the command starts, then the bits `b` set
(10_state.md R34, 30_encoding.md R107). -/
def State.after (s : State) (b : U32) : State := { s with status := (s.status &&& ~~~0x8000#32) ||| b }

/-- How many FUNC values the class with this CLASS number defines; they are numbered from 0 (30_encoding.md R102, R103). -/
def funcCount : (cls : Nat) → Nat
  | 0 => 4
  | 1 => 4
  | 2 => 4
  | 3 => 4
  | 4 => 6
  | 5 => 4
  | 6 => 4
  | 7 => 2
  | 8 => 8
  | 9 => 6
  | 10 => 2
  | 11 => 3
  | 12 => 1
  | 13 => 2
  | 14 => 4
  | 16 => 4
  | 17 => 4
  | 18 => 4
  | 19 => 4
  | 20 => 4
  | _ => 0

/-- The results in Y of one command issued once for each sample, A0 holding the sample (40_delay_lines.md R135). -/
def State.ticks (i : Instr) : List Flt → State → List Flt
  | [], _ => []
  | x :: xs, s =>
    match exec i { s with a0 := x } with
    | .next t => t.y :: State.ticks i xs t
    | .fault _ => []
    | .refused _ => []

/-- Every primitive instance holds the values of 70_reset_and_hazards.md R390. -/
structure Units.AtReset (f : Fmt) (u : Units) : Prop where
  dln : ∀ d ∈ u.dln, d = ⟨0, 0, 0, 0#64, []⟩
  dla : ∀ d ∈ u.dla, d = ⟨0, 0, 0, 0#64, 0#64, 0#64, 0#64, []⟩
  dll : ∀ d ∈ u.dll, d = ⟨0, 0, 0, 0#64, 0#64, []⟩
  biq : ∀ q ∈ u.biq, q = ⟨0#64, 0#64, 0#64, 0#64, f.one, 0#64, 0#64, 0#64, 0#64⟩
  opole : ∀ q ∈ u.opole, q = ⟨f.one, 0#64, f.one, 0#64⟩
  ozero : ∀ q ∈ u.ozero, q = ⟨f.one, 0#64, f.one, 0#64, 0#64⟩
  dcb : ∀ q ∈ u.dcb, q = ⟨0#64, 0#64⟩
  adsr : ∀ e ∈ u.adsr, e = ⟨0#64, 0#64, 0#64, .release, 0#64, 0#64, 0#64, 0#64⟩
  env : ∀ e ∈ u.env, e = ⟨0#64, 0#64, 0#64, .release⟩
  bow : ∀ b ∈ u.bow, b = ⟨f.one⟩
  reed : ∀ r ∈ u.reed, r = ⟨0#64, f.one⟩
  noise : ∀ n ∈ u.noise, n = ⟨0#64⟩
  vib : ∀ v ∈ u.vib, v = ⟨0#32, 0, 0#64, 0#64, 0#64, 0#64⟩

/-- The part every model instance holds, at reset (70_reset_and_hazards.md R390): IDLE, every control and cache +0. -/
structure Hdr.AtReset (h : Hdr) : Prop where
  mstate : h.mstate = .idle
  ctl : ∀ k : Fin 16, h.ctl.get k = 0#64
  cache : ∀ k : Fin 16, h.cache.get k = 0#64
  counter : h.counter = 0
  minF : h.minF = 0#64

/-- One branch of the bar at reset. -/
structure Branch.AtReset (f : Fmt) (b : Branch) : Prop where
  d : b.d = ⟨0, 0, 0, 0#64, []⟩
  q : b.q = ⟨0#64, 0#64, 0#64, 0#64, f.one, 0#64, 0#64, 0#64, 0#64⟩
  gain : b.gain = 0#64

structure Bar.AtReset (f : Fmt) (m : Bar) : Prop where
  hdr : m.hdr.AtReset
  k0 : m.k.k0.AtReset f
  k1 : m.k.k1.AtReset f
  k2 : m.k.k2.AtReset f
  k3 : m.k.k3.AtReset f
  bw : m.bw = ⟨f.one⟩
  ad : m.ad = ⟨0#64, 0#64, 0#64, .release, 0#64, 0#64, 0#64, 0#64⟩
  scalars : m.maxVel = 0#64 ∧ m.bowTarg = 0#64 ∧ m.bowVel = 0#64 ∧ m.vEst = 0#64 ∧ m.lastTP = 0#64

structure Clar.AtReset (f : Fmt) (m : Clar) : Prop where
  hdr : m.hdr.AtReset
  dl : m.dl = ⟨0, 0, 0, 0#64, 0#64, []⟩
  oz : m.oz = ⟨f.one, 0#64, f.one, 0#64, 0#64⟩
  rd : m.rd = ⟨0#64, f.one⟩
  env : m.env = ⟨0#64, 0#64, 0#64, .release⟩
  ns : m.ns = ⟨0#64⟩
  vb : m.vb = ⟨0#32, 0, 0#64, 0#64, 0#64, 0#64⟩

structure Flute.AtReset (f : Fmt) (m : Flute) : Prop where
  hdr : m.hdr.AtReset
  bore : m.bore = ⟨0, 0, 0, 0#64, 0#64, []⟩
  jet : m.jet = ⟨0, 0, 0, 0#64, 0#64, []⟩
  lp : m.lp = ⟨f.one, 0#64, f.one, 0#64⟩
  dc : m.dc = ⟨0#64, 0#64⟩
  ad : m.ad = ⟨0#64, 0#64, 0#64, .release, 0#64, 0#64, 0#64, 0#64⟩
  ns : m.ns = ⟨0#64⟩
  vb : m.vb = ⟨0#32, 0, 0#64, 0#64, 0#64, 0#64⟩
  maxP : m.maxP = 0#64

structure Bowed.AtReset (f : Fmt) (m : Bowed) : Prop where
  hdr : m.hdr.AtReset
  nut : m.nut = ⟨0, 0, 0, 0#64, 0#64, []⟩
  bridge : m.bridge = ⟨0, 0, 0, 0#64, 0#64, []⟩
  lp : m.lp = ⟨f.one, 0#64, f.one, 0#64⟩
  body : m.body = ⟨0#64, 0#64, 0#64, 0#64, f.one, 0#64, 0#64, 0#64, 0#64⟩
  bw : m.bw = ⟨f.one⟩
  ad : m.ad = ⟨0#64, 0#64, 0#64, .release, 0#64, 0#64, 0#64, 0#64⟩
  vb : m.vb = ⟨0#32, 0, 0#64, 0#64, 0#64, 0#64⟩
  scalars : m.base = 0#64 ∧ m.maxVel = 0#64

structure Brass.AtReset (f : Fmt) (m : Brass) : Prop where
  hdr : m.hdr.AtReset
  bore : m.bore = ⟨0, 0, 0, 0#64, 0#64, 0#64, 0#64, []⟩
  lip : m.lip = ⟨0#64, 0#64, 0#64, 0#64, f.one, 0#64, 0#64, 0#64, 0#64⟩
  dc : m.dc = ⟨0#64, 0#64⟩
  ad : m.ad = ⟨0#64, 0#64, 0#64, .release, 0#64, 0#64, 0#64, 0#64⟩
  vb : m.vb = ⟨0#32, 0, 0#64, 0#64, 0#64, 0#64⟩
  maxP : m.maxP = 0#64

/-- Every model instance holds the values of 70_reset_and_hazards.md R390. -/
structure Models.AtReset (f : Fmt) (m : Models) : Prop where
  bar : ∀ x ∈ m.bar, x.AtReset f
  clar : ∀ x ∈ m.clar, x.AtReset f
  flute : ∀ x ∈ m.flute, x.AtReset f
  bowed : ∀ x ∈ m.bowed, x.AtReset f
  brass : ∀ x ∈ m.brass, x.AtReset f

/-- The controls as INIT read them, a field of the model's own, are +0 in every model instance (log 30). -/
structure Models.INotRead (m : Models) : Prop where
  bar : ∀ x ∈ m.bar, ∀ k : Fin 16, x.hdr.iCtl.get k = 0#64
  clar : ∀ x ∈ m.clar, ∀ k : Fin 16, x.hdr.iCtl.get k = 0#64
  flute : ∀ x ∈ m.flute, ∀ k : Fin 16, x.hdr.iCtl.get k = 0#64
  bowed : ∀ x ∈ m.bowed, ∀ k : Fin 16, x.hdr.iCtl.get k = 0#64
  brass : ∀ x ∈ m.brass, ∀ k : Fin 16, x.hdr.iCtl.get k = 0#64

/-- Both states have the same number of instances of every class. -/
abbrev State.SameCounts (s t : State) : Prop := ∀ cls : Nat, t.instances cls = s.instances cls

/-! ### The rules of the five models, said once for a model `k`, its bank and its commands -/

variable {M : Type}

/-- `<m>.setctl` (44_models_common.md R272): an index above 15 or a value that is not finite is refused, else control IARG takes
A0 and nothing else changes. -/
def SetctlRule (k : ModelKit M) (bank : State → List M) (put : State → List M → State) (op : Nat → Instr) : Prop :=
  ∀ (s : State) (n : Nat) (m : M), (bank s)[n]? = some m →
    (15 < s.iarg.toNat ∨ s.params.fmt.isFinite s.a0 = false → exec (op n) s = .next (s.after 0x8080#32))
      ∧ ∀ h : s.iarg.toNat < 16, s.params.fmt.isFinite s.a0 = true →
          exec (op n) s =
            .next (put (s.after 0#32)
              ((bank s).set n (k.setHdr { k.hdr m with ctl := (k.hdr m).ctl.set s.iarg.toNat s.a0 h } m)))

/-- `<m>.release` (R289) of a running instance re-arms the counter to 1 and changes nothing else; RELEASE and RENDER of an
instance that is not RUNNING raise ERR_STATE (R270, R285, R289). -/
def ReleaseRule (k : ModelKit M) (bank : State → List M) (put : State → List M → State) (rel ren : Nat → Instr) : Prop :=
  ∀ (s : State) (n : Nat) (m : M), (bank s)[n]? = some m →
    ((k.hdr m).mstate = .running →
        exec (rel n) s = .next (put (s.after 0#32) ((bank s).set n (k.setHdr { k.hdr m with counter := 1 } m))))
      ∧ ((k.hdr m).mstate ≠ .running →
        exec (rel n) s = .next (s.after 0x8040#32) ∧ exec (ren n) s = .next (s.after 0x8040#32))

/-- FMAX_m of CLAR, FLUTE, BOWED or BRASS: SR over the model's divisor, or a frequency (R294; 45_models.md R300). -/
def noteFmax (s : State) : FmaxConst → Flt
  | .srOver d => s.params.fmt.div s.sr d
  | .hertz v => v

/-- minF before the cap of R274: LOWFREQ, else FREQ, else FLOOR_HZ. -/
def noteFloor (s : State) (h : Hdr) : Flt :=
  if s.params.fmt.lt 0#64 (h.ctl.get 2) then h.ctl.get 2
  else if s.params.fmt.lt 0#64 (h.ctl.get 1) then h.ctl.get 1
  else s.params.floorHz

/-- minF (R274): capped at FMAX. -/
def noteMinF (s : State) (h : Hdr) (fmax : Flt) : Flt :=
  if s.params.fmt.lt fmax (noteFloor s h) then fmax else noteFloor s h

/-- WARN_FLOOR (bit 1) where LOWFREQ and FREQ are both not > 0 (R274). -/
def noteWarn (s : State) (h : Hdr) : U32 :=
  if s.params.fmt.lt 0#64 (h.ctl.get 2) = true ∨ s.params.fmt.lt 0#64 (h.ctl.get 1) = true then 0#32 else 0x2#32

/-- SR and KR are set (R276). -/
abbrev ContextSet (s : State) : Prop := s.params.fmt.lt 0#64 s.sr = true ∧ s.params.fmt.lt 0#64 s.kr = true

/-- The table id INIT reads, trunc(VIBTAB), names a table (R276). -/
abbrev TablePresent (s : State) (h : Hdr) : Prop :=
  0 ≤ s.params.fmt.trunc (h.ctl.get 5) ∧ tableLen s.tables (s.params.fmt.trunc (h.ctl.get 5)).toNat ≠ 0

/-- The buffer request Nm of R275. -/
def noteRequest (s : State) (km minF : Flt) : Int :=
  s.params.fmt.trunc (s.params.fmt.div (s.params.fmt.mul km s.sr) minF) + 4

/-- The failing INITs of R276: each leaves the instance FAILED and changes nothing else but STATUS. -/
def InitFailsRule (k : ModelKit M) (bank : State → List M) (put : State → List M → State) (op : Nat → Instr)
    (needsTable : Bool) (km fmax : State → Flt) : Prop :=
  ∀ (s : State) (n : Nat) (m : M), (bank s)[n]? = some m →
    (¬ ContextSet s →
        exec (op n) s = .next (put (s.after 0x8040#32) ((bank s).set n (k.setHdr { k.hdr m with mstate := .failed } m))))
      ∧ (ContextSet s → needsTable = true → ¬ TablePresent s (k.hdr m) →
        exec (op n) s = .next (put (s.after 0x8010#32) ((bank s).set n (k.setHdr { k.hdr m with mstate := .failed } m))))
      ∧ (ContextSet s → (needsTable = true → TablePresent s (k.hdr m)) →
        s.params.fmt.isFinite
            (s.params.fmt.div (s.params.fmt.mul (km s) s.sr) (noteMinF s (k.hdr m) (fmax s))) = true →
        (s.params.maxCap : Int) < noteRequest s (km s) (noteMinF s (k.hdr m) (fmax s)) + 1 →
        exec (op n) s =
          .next (put (s.after (noteWarn s (k.hdr m) ||| 0x8080#32))
            ((bank s).set n (k.setHdr { k.hdr m with mstate := .failed } m))))

/-- WARN_CLAMP of FreqOf (R294). -/
def noteClamp (f : Fmt) (freq minF fmax : Flt) : U32 :=
  if f.lt fmax freq = true ∨ f.lt (if f.lt fmax freq then fmax else freq) minF = true then 0x1#32 else 0#32

/-- Where INIT may go on to its private units (R276): the context set, the table present, the request `q` representable. -/
def InitReady (k : ModelKit M) (s : State) (m : M) (needsTable : Bool) (km fmax : Flt) (q : Nat) : Prop :=
  ContextSet s ∧ (needsTable = true → TablePresent s (k.hdr m))
    ∧ s.params.fmt.isFinite (s.params.fmt.div (s.params.fmt.mul km s.sr) (noteMinF s (k.hdr m) fmax)) = true
    ∧ noteRequest s km (noteMinF s (k.hdr m) fmax) = (q : Int) ∧ q + 1 ≤ s.params.maxCap

/-- What a successful INIT leaves whatever the model (R276): the instance RUNNING with its controls kept, the i-rate ones read
(R400; log 30), minF, the counter of R287 and the caches of R280; STATUS takes the WARN_FLOOR of R274, the WARN_CLAMP of FreqOf (R294)
and the warnings `lags` of the private setdels; nothing else changes. -/
def Started (k : ModelKit M) (bank : State → List M) (put : State → List M → State) (op : Nat → Instr) (kRate : List (Fin 16))
    (s : State) (n : Nat) (m m' : M) (fmax : Flt) (lags : U32) : Prop :=
  let h := k.hdr m
  let f := s.params.fmt
  let w := noteWarn s h ||| noteClamp f (h.ctl.get 1) (noteMinF s h fmax) fmax ||| lags
  exec (op n) s = .next (put (s.after w) ((bank s).set n m'))
    ∧ (k.hdr m').mstate = .running ∧ (k.hdr m').ctl = h.ctl ∧ (k.hdr m').iCtl = h.ctl
    ∧ (k.hdr m').minF = noteMinF s h fmax
    ∧ (∀ x ∈ kRate, (k.hdr m').cache.get x = h.ctl.get x)
    ∧ (k.hdr m').counter =
        (if f.lt 0#64 (h.ctl.get 3) then
          f.trunc (f.mul (h.ctl.get 3) s.kr)
            - f.trunc (f.mul (if f.lt (h.ctl.get 4) 0#64 then 0#64 else h.ctl.get 4) s.kr)
        else -1)

/-- `f`, the frequency a model tunes to (R294). -/
def noteFreq (f : Fmt) (freq minF fmax : Flt) : Flt :=
  let g := if f.lt fmax freq then fmax else freq
  if f.lt g minF then minF else g

/-- `RateOf(t)` of 42_envelopes.md R211. -/
def noteRate (s : State) (t : Flt) : Flt :=
  let f := s.params.fmt
  let b := match s.params.rateBasis with
    | .kr => s.kr
    | .sr => s.sr
  if f.lt 0#64 t then f.div f.one (f.mul t b) else f.one

/-- The ADSR a model strikes at INIT (45_models.md R303, R331, R341, R349): its times taken, keyed on, at value 0. -/
def struck (s : State) (t : AdsrTimes) : Adsr :=
  ⟨0#64, s.params.fmt.one, noteRate s t.attack, .attack, noteRate s t.attack, noteRate s t.decay, noteRate s t.release,
    t.sustain⟩

/-- The four operands of a model's settimes are numbers (42_envelopes.md R211). -/
abbrev TimesLegal (f : Fmt) (t : AdsrTimes) : Prop :=
  f.isNaN t.attack = false ∧ f.isNaN t.decay = false ∧ f.isNaN t.sustain = false ∧ f.isNaN t.release = false

/-- A RENDER of a running instance (R285) is abandoned with the error of its release step or control update (60_exceptions.md R363;
log 11), or writes exactly the words of its block, in order, and leaves the instance after the last of them: the counter one less,
the caches those of the controls it reads, the other controls and their caches kept, one draw taken for each sample or none. -/
def RenderRule (k : ModelKit M) (bank : State → List M) (put : State → List M → State) (op : Nat → Instr)
    (kRate : List (Fin 16)) (draws : Bool) : Prop :=
  ∀ (s : State) (n : Nat) (m : M), (bank s)[n]? = some m → (k.hdr m).mstate = .running →
    match renderBody k s.ctx s.iarg.toNat m (s.fx true) with
    | .raise w e => exec (op n) s = .next (s.after (w ||| e ||| 0x8000#32))
    | .ok w (words, m', fx) =>
      ∃ t : State, exec (op n) s = .next t
        ∧ t = { put (s.after w) ((bank s).set n m') with out := t.out, noiseIn := fx.noise, free := fx.free }
        ∧ words.length = s.iarg.toNat
        ∧ (∀ a < s.iarg.toNat, outRead a t.out = words[a]?)
        ∧ (∀ a, s.iarg.toNat ≤ a → outRead a t.out = outRead a s.out)
        ∧ k.hdr m' = { k.hdr m with counter := (k.hdr m).counter - 1, cache := (k.hdr m').cache }
        ∧ (∀ x, (k.hdr m').cache.get x = if x ∈ kRate then (k.hdr m).ctl.get x else (k.hdr m).cache.get x)
        ∧ t.noiseIn = (if draws then s.noiseIn.drop s.iarg.toNat else s.noiseIn)

/-- A control that is not k-rate, set to another value after INIT, is ignored by RENDER (70_reset_and_hazards.md R400; log 30): the
RENDER does all the same, with that control in its register. -/
def IRateWaitsRule (k : ModelKit M) (bank : State → List M) (put : State → List M → State) (op : Nat → Instr)
    (kRate : List (Fin 16)) : Prop :=
  ∀ (s : State) (n : Nat) (m : M) (x : Fin 16) (v : Flt), (bank s)[n]? = some m → x ∉ kRate →
    let set := fun m : M => k.setHdr { k.hdr m with ctl := (k.hdr m).ctl.set x.val v x.isLt } m
    ∃ (t : State) (m' : M), exec (op n) s = .next t ∧ (bank t)[n]? = some m'
      ∧ exec (op n) (put s ((bank s).set n (set m))) = .next (put t ((bank t).set n (set m')))

/-- Nothing changed since the last control update, and the release counter does not fire in the next RENDER (R280, R288). -/
def Steady (k : ModelKit M) (kRate : List (Fin 16)) (m : M) : Prop :=
  (k.hdr m).mstate = .running ∧ (k.hdr m).counter ≠ 1 ∧ ∀ x ∈ kRate, (k.hdr m).cache.get x = (k.hdr m).ctl.get x

/-- Rendering a + b samples at once writes what rendering a and then b writes, and leaves the same instance but for its counter,
the same draws and the same sticky bits, while no control changes and no release fires (R285, R288, R354). -/
def SplitRule (k : ModelKit M) (bank : State → List M) (op : Nat → Instr) (kRate : List (Fin 16)) : Prop :=
  ∀ (s : State) (n : Nat) (m : M) (a b : Nat), (bank s)[n]? = some m → Steady k kRate m → (k.hdr m).counter ≠ 2 →
    a + b < 2 ^ 32 →
    ∃ (t1 t2 t : State) (m2 m' : M), exec (op n) { s with iarg := BitVec.ofNat 32 a } = .next t1
      ∧ exec (op n) { t1 with iarg := BitVec.ofNat 32 b } = .next t2
      ∧ exec (op n) { s with iarg := BitVec.ofNat 32 (a + b) } = .next t
      ∧ (∀ j < a, outRead j t.out = outRead j t1.out) ∧ (∀ j < b, outRead (a + j) t.out = outRead j t2.out)
      ∧ (bank t2)[n]? = some m2 ∧ (bank t)[n]? = some m'
      ∧ m2 = k.setHdr { k.hdr m' with counter := (k.hdr m).counter - 2 } m'
      ∧ t2.noiseIn = t.noiseIn ∧ t2.free = t.free ∧ t2.status &&& 0xff#32 = t.status &&& 0xff#32

/-- After RELEASE the next RENDER, of any block size, leaves the envelope falling to 0 at the rate the release action sets, unless its
control update abandons it; where no control changed and a rate taken from a time is a number, it is not (R288-R290). `env` is the
target, the phase and the rate of the model's envelope. -/
def ReleaseFallsRule (k : ModelKit M) (bank : State → List M) (rel ren : Nat → Instr) (kRate : List (Fin 16))
    (env : M → Flt × Phase × Flt) (fromTime : Bool) (rate : State → M → Flt) : Prop :=
  ∀ (s : State) (n : Nat) (m : M) (b : U32), (bank s)[n]? = some m → (k.hdr m).mstate = .running →
    ∃ (t1 t2 : State) (m2 : M), exec (rel n) s = .next t1 ∧ exec (ren n) { t1 with iarg := b } = .next t2
      ∧ (bank t2)[n]? = some m2
      ∧ (t2.status &&& 0x8000#32 = 0#32 → env m2 = (0#64, .release, rate s m))
      ∧ ((∀ x ∈ kRate, (k.hdr m).cache.get x = (k.hdr m).ctl.get x) →
          (fromTime = true → s.params.fmt.isNaN (rate s m) = false) → t2.status &&& 0x8000#32 = 0#32)

/-- The release rate taken from RELTIME as INIT read it (45_models.md R326, R336, R352; 42_envelopes.md R214; log 30). -/
def fallRate (s : State) (h : Hdr) : Flt :=
  let r := noteRate s (h.iCtl.get 4)
  if s.params.fmt.lt r 0#64 then s.params.fmt.abs r else r

/-! ### Control updates inside RENDER (R280, R284) -/

/-- A RENDER of no samples in which no release fires: only its control update acts. -/
def Updates (k : ModelKit M) (s : State) (m : M) : Prop :=
  (k.hdr m).mstate = .running ∧ (k.hdr m).counter ≠ 1 ∧ s.iarg = 0#32

/-- `changed(c)` (R280): the bit pattern of control `x` differs from its cache. -/
abbrev Hdr.dirty (h : Hdr) (x : Fin 16) : Prop := h.cache.get x ≠ h.ctl.get x

/-- What such a RENDER leaves whatever the model: the instance with its counter one less and its caches refreshed, the warnings `w`,
and nothing else changed. -/
def Updated (k : ModelKit M) (bank : State → List M) (put : State → List M → State) (op : Nat → Instr) (kRate : List (Fin 16))
    (s : State) (n : Nat) (m m' : M) (w : U32) : Prop :=
  exec (op n) s = .next (put (s.after w) ((bank s).set n m'))
    ∧ k.hdr m' = { k.hdr m with counter := (k.hdr m).counter - 1, cache := (k.hdr m').cache }
    ∧ ∀ x, (k.hdr m').cache.get x = if x ∈ kRate then (k.hdr m).ctl.get x else (k.hdr m).cache.get x

/-- A vibrato given the frequency of VIBFREQ (R291; 43_tables_noise_vibrato.md R254). -/
def Vib.at (s : State) (hz : Flt) (u : Vib) : Vib :=
  { u with freq := hz, rate := s.params.fmt.div (s.params.fmt.mul hz (s.params.fmt.fromNat u.len)) s.sr }

/-- A vibrato tick of a unit with a table (43_tables_noise_vibrato.md R255): the value, the unit and the counter of free values
after it. -/
def vibStep (s : State) (u : Vib) (free : Nat) : Flt × Vib × Nat :=
  let f := s.params.fmt
  let phase := f.wrap (f.add u.phase u.rate) u.len
  let i := (f.floor phase).toNat
  let a := tableRead f s.tables u.tab.toNat u.len i free
  let b := tableRead f s.tables u.tab.toNat u.len ((i + 1) % u.len) a.2
  let v := f.add a.1 (f.mul (f.sub phase (f.fromNat i)) (f.sub b.1 a.1))
  (v, { u with phase := phase, last := v }, b.2)

/-- A draw (R250): the value, the scripted draws left and the counter of free values after it. What NOISE_SRC may not answer reads
as +0 (log 6). -/
def drawStep (s : State) : Flt × List Flt × Nat :=
  let f := s.params.fmt
  let legal := fun v => if f.le (f.abs v) f.one then f.fit v else 0#64
  match s.noiseIn with
  | v :: rest => (legal v, rest, s.free)
  | [] => (legal (Config.noise s.free), [], s.free + 1)

end Sys2Proof.Machine
end

