-- ==== Sys2Proof/Certificates/Slice0/Obligations.lean ====
section
/-! DEFINITION. The statements for the provers. A command that completes is said to answer the next state its rule gives, whole:
every field not named is kept. `State.after s b` is `s` with CMD_FAIL cleared and the STATUS bits `b` set; 0x80xx sets CMD_FAIL
and one error bit (10_state.md R33, R34). -/

open Sys2Proof Sys2Proof.Machine

/-! ### Encoding -/

/-- R101-R103: decoding the word of a well-formed command gives the command back, with its instance number at every value. -/
def Obligations.DecodeEncodeRoundTrip : Prop :=
  ∀ i : Instr, i.wellFormed = true → decode (encode i) = .ok i

/-- R107, R108: a word the decoder accepts is the encoding of what it decodes to, so no two words mean the same command. -/
def Obligations.DecodedWordIsEncoded : Prop :=
  ∀ (w : U32) (i : Instr), decode w = .ok i → encode i = w ∧ i.wellFormed = true

/-- R112, R109: the words the spec writes out. -/
def Obligations.WrittenOutWords : Prop :=
  decode 0x10C20000#32 = .ok (.biqTick 2) ∧ decode 0x04000000#32 = .ok (.dlnCfg 0)
    ∧ decode 0x04800000#32 = .ok (.dlnTick 0) ∧ decode 0x21010000#32 = .ok (.adsrKeyon 1)
    ∧ decode 0x44800000#32 = .ok (.clarRender 0) ∧ decode 0x00C00000#32 = .ok .sysSetctx
    ∧ decode 0x00000000#32 = .ok .sysNop
    ∧ encode (.biqTick 2) = 0x10C20000#32 ∧ encode (.dlnCfg 0) = 0x04000000#32 ∧ encode (.dlnTick 0) = 0x04800000#32
    ∧ encode (.adsrKeyon 1) = 0x21010000#32 ∧ encode (.clarRender 0) = 0x44800000#32
    ∧ encode .sysSetctx = 0x00C00000#32 ∧ encode .sysNop = 0x00000000#32

/-- R107, R108: a non-zero ZERO field, a reserved CLASS or FUNC, a SYS word with INST not 0 and an INST not below N_C raise
ERR_ILLEGAL with no other effect; every other word performs the command of its CLASS and FUNC on instance INST. -/
def Obligations.IllegalWordsRaiseIllegal : Prop :=
  ∀ (s : State) (w : U32),
    let cls := (w.extractLsb' 26 6).toNat
    let fn := (w.extractLsb' 22 4).toNat
    let inst := (w.extractLsb' 16 6).toNat
    let illegal := w.extractLsb' 0 16 ≠ 0#16 ∨ funcCount cls ≤ fn ∨ (cls = 0 ∧ inst ≠ 0) ∨ (cls ≠ 0 ∧ s.instances cls ≤ inst)
    (illegal → issue w s = .next (s.after 0x8020#32))
      ∧ (¬ illegal → ∃ i : Instr, i.cls = cls ∧ i.fn = fn ∧ i.inst = inst ∧ issue w s = exec i s)

/-! ### Steps -/

/-- R82, R100, R107 (log 1): where the next host write is to CMD, the step stores the word in CMD, takes the write off the list and
issues the word, whatever it is; where the word decodes to a command, that is exec of the command. That CMD keeps the written word is
the model's inference (log 22). -/
def Obligations.StepRunsTheDecodedCommand : Prop :=
  ∀ (s : State) (w : U32) (rest : List HostWrite), s.pending = .cmd w :: rest →
    let s' := { s with pending := rest, cmd := w }
    step s = issue w s' ∧ ∀ i : Instr, decode w = .ok i → step s = exec i s'

/-- R32, R74, R380 (logs 1, 14, 19): an idle block holds all its state; a host write to an operand register changes that register
alone, and no command runs; installing wavetable `id` makes the port answer its words, installing no words removes it, id 0 is never
a table, and every other table is kept word for word. -/
def Obligations.HostWritesLand : Prop :=
  (∀ s : State, s.pending = [] → step s = .next s)
    ∧ ∀ (s : State) (rest : List HostWrite) (v : Flt) (n id : U32) (ws : List Flt),
      (s.pending = .a0 v :: rest → step s = .next { s with pending := rest, a0 := s.params.fmt.fit v })
      ∧ (s.pending = .a1 v :: rest → step s = .next { s with pending := rest, a1 := s.params.fmt.fit v })
      ∧ (s.pending = .a2 v :: rest → step s = .next { s with pending := rest, a2 := s.params.fmt.fit v })
      ∧ (s.pending = .a3 v :: rest → step s = .next { s with pending := rest, a3 := s.params.fmt.fit v })
      ∧ (s.pending = .iarg n :: rest → step s = .next { s with pending := rest, iarg := n })
      ∧ (s.pending = .table id ws :: rest → Tables.wf s.tables = true →
          ∃ tables, step s = .next { s with pending := rest, tables := tables }
            ∧ (id ≠ 0#32 → ws ≠ [] → Assoc.find id.toNat tables = some (ws.map s.params.fmt.fit))
            ∧ (ws = [] → Assoc.find id.toNat tables = none)
            ∧ Assoc.find 0 tables = none
            ∧ ∀ j, j ≠ id.toNat → Assoc.find j tables = Assoc.find j s.tables)

/-- R360: the block never traps, so every command and every step answers a next state, whatever the state. -/
def Obligations.NothingStops : Prop :=
  (∀ (i : Instr) (s : State), ∃ t, exec i s = .next t) ∧ ∀ s : State, ∃ t, step s = .next t

/-! ### Invariants and whole-machine rules -/

/-- R38, R48, R71, R293: from every state whose delay lines have their indices below their capacity and as many words as their
capacity, whose vibrato phases are in [0, len) and whose RUNNING models are sized, every step leads to such a state. -/
def Obligations.StepKeepsUnitsWellFormed : Prop :=
  ∀ s t : State, s.UnitsWf → step s = .next t → t.UnitsWf

/-- R33: the reserved STATUS bits read 0 after every step that starts with them 0. -/
def Obligations.StepKeepsReservedStatusZero : Prop :=
  ∀ s t : State, s.StatusWf → step s = .next t → t.StatusWf

/-- R74, R76 (logs 13, 14): the host's two memories keep their canonical form in every step. -/
def Obligations.StepKeepsHostMemoryCanonical : Prop :=
  ∀ s t : State, s.MemoryWf → step s = .next t → t.MemoryWf

/-- R31, R263, R364: only sys.setctx changes SR or KR, it never leaves one not > 0 that was > 0, and every step keeps both unset or
finite and > 0. -/
def Obligations.OnlySetctxWritesContext : Prop :=
  (∀ (i : Instr) (s t : State), exec i s = .next t → i ≠ .sysSetctx → t.sr = s.sr ∧ t.kr = s.kr)
    ∧ (∀ (i : Instr) (s t : State), exec i s = .next t →
        (s.params.fmt.lt 0#64 s.sr = true → t.params.fmt.lt 0#64 t.sr = true)
          ∧ (s.params.fmt.lt 0#64 s.kr = true → t.params.fmt.lt 0#64 t.kr = true))
    ∧ ∀ s t : State, s.ContextWf → step s = .next t → t.ContextWf

/-- R395: no command writes A0-A3 or IARG; nor does one change CMD, the parameters, the wavetables, the pending host writes or the
number of instances of a class. -/
def Obligations.NoCommandWritesOperands : Prop :=
  ∀ (i : Instr) (s t : State), exec i s = .next t →
    t.a0 = s.a0 ∧ t.a1 = s.a1 ∧ t.a2 = s.a2 ∧ t.a3 = s.a3 ∧ t.iarg = s.iarg
      ∧ t.cmd = s.cmd ∧ t.params = s.params ∧ t.tables = s.tables ∧ t.pending = s.pending ∧ s.SameCounts t

/-- R32, R76, R103, R250: Y is written only by the commands of the "writes Y" column and by none that abandons, output memory only by
RENDER, and a draw or a free value is taken only by noise.tick, vib.tick and RENDER. -/
def Obligations.OnlyTheListedCommandsWriteResults : Prop :=
  ∀ (i : Instr) (s t : State), exec i s = .next t →
    (i.writesY = false → t.y = s.y)
      ∧ (i.isRender = false → t.status &&& 0x8000#32 ≠ 0#32 → t.y = s.y)
      ∧ (i.isRender = false → t.out = s.out)
      ∧ (i.isRender = false → (∀ n, i ≠ .noiseTick n ∧ i ≠ .vibTick n) → t.noiseIn = s.noiseIn ∧ t.free = s.free)

/-- R34, R361, R363: a command other than INIT that ends with CMD_FAIL set has changed nothing but STATUS, where it set exactly one
error bit; only a RENDER (log 11) may have set warnings before it. -/
def Obligations.AbandonedCommandChangesOnlyStatus : Prop :=
  ∀ (i : Instr) (s t : State), exec i s = .next t → i.isInit = false → t.status &&& 0x8000#32 ≠ 0#32 →
    ∃ e ∈ [0x8#32, 0x10#32, 0x20#32, 0x40#32, 0x80#32], ∃ w : U32, w &&& ~~~0x7#32 = 0#32 ∧ (i.isRender = false → w = 0#32)
      ∧ t = s.after (0x8000#32 ||| e ||| w)

/-- R34: the sticky bits 0-7 stay set through every command but sys.clrstat and sys.sreset. -/
def Obligations.StickyBitsStay : Prop :=
  ∀ (i : Instr) (s t : State), exec i s = .next t → i ≠ .sysClrstat → i ≠ .sysSreset →
    s.status &&& 0xFF#32 &&& ~~~t.status = 0#32

/-- R81, R378: a command changes no instance but the one its word names; only sys.sreset reaches all of them. -/
def Obligations.CommandsTouchOnlyTheirInstance : Prop :=
  ∀ (i : Instr) (s t : State), exec i s = .next t → i ≠ .sysSreset →
    ∀ cls j : Nat, ¬ (cls = i.cls ∧ j = i.inst) → s.sameInstance t cls j

/-- R354: two RENDERs of one model instance in states that agree on that instance, the parameters, SR, KR, the tables, IARG and the
noise draws leave the same instance, take the same draws, set the same STATUS bits and, where they are not abandoned, write the same
words, whatever else the states hold, output memory among it. -/
def Obligations.RenderIsAFunctionOfItsInputs : Prop :=
  ∀ (i : Instr) (s s' t t' : State), i.isRender = true → exec i s = .next t → exec i s' = .next t' →
    s.sameInstance s' i.cls i.inst → s'.params = s.params → s'.sr = s.sr → s'.kr = s.kr → s'.tables = s.tables →
    s'.iarg = s.iarg → s'.noiseIn = s.noiseIn → s'.free = s.free →
    t.sameInstance t' i.cls i.inst ∧ t'.noiseIn = t.noiseIn ∧ t'.free = t.free
      ∧ (∃ w, t.status = (s.after w).status ∧ t'.status = (s'.after w).status)
      ∧ (t.status &&& 0x8000#32 = 0#32 → ∀ a < s.iarg.toNat, outRead a t'.out = outRead a t.out)
      ∧ ∀ a, outRead a s'.out = outRead a s.out → outRead a t'.out = outRead a t.out

/-! ### Reset and block control -/

/-- R390: what reset leaves. -/
def Obligations.ResetState : Prop :=
  let s := State.reset
  s.sr = 0#64 ∧ s.kr = 0#64 ∧ s.cmd = 0#32 ∧ s.a0 = 0#64 ∧ s.a1 = 0#64 ∧ s.a2 = 0#64 ∧ s.a3 = 0#64 ∧ s.iarg = 0#32
    ∧ s.y = 0#64 ∧ s.status = 0#32 ∧ s.units.AtReset .binary64 ∧ s.models.AtReset .binary64

/-- The invariants hold at reset, with the default parameters of R8 and four instances of every class; the host's side (tables, output
memory) is empty and the controls as INIT read them are +0 by the model's choice (logs 13, 14, 30). -/
def Obligations.ResetMeetsInvariants : Prop :=
  let s := State.reset
  s.UnitsWf ∧ s.StatusWf ∧ s.MemoryWf ∧ s.ContextWf ∧ s.params.legal = true ∧ s.models.INotRead
    ∧ ∀ cls ∈ [1, 2, 3, 4, 5, 6, 7, 8, 9, 10, 11, 12, 13, 14, 16, 17, 18, 19, 20], s.instances cls = 4

/-- R262, R392: sys.sreset puts every unit, every model and STATUS at reset and keeps the rest. -/
def Obligations.SresetRestoresResetValues : Prop :=
  encode .sysSreset = 0x00800000#32
    ∧ ∀ s : State, ∃ t, exec .sysSreset s = .next t ∧ t.units.AtReset s.params.fmt ∧ t.models.AtReset s.params.fmt
      ∧ s.SameCounts t ∧ t = { s with units := t.units, models := t.models, status := 0#32 }

/-- R390 at the reset input (logs 17, 30, the model's choice of what is not block state and of its own field): every unit and model,
STATUS, the interface registers and the host context are at reset; the parameters and the host's side are kept. -/
def Obligations.ResetInputRestoresResetValues : Prop :=
  ∀ (s : State) (rest : List HostWrite), s.pending = .reset :: rest →
    ∃ t, step s = .next t ∧ t.units.AtReset s.params.fmt ∧ t.models.AtReset s.params.fmt ∧ t.models.INotRead ∧ s.SameCounts t
      ∧ t = { s with
                units := t.units, models := t.models, status := 0#32, sr := 0#64, kr := 0#64, cmd := 0#32, a0 := 0#64,
                a1 := 0#64, a2 := 0#64, a3 := 0#64, iarg := 0#32, y := 0#64, pending := rest }

/-- R260, R261, R263: sys.nop clears CMD_FAIL alone, sys.clrstat clears STATUS alone, sys.setctx writes SR or KR by IARG and refuses
another index or a value not finite and > 0. -/
def Obligations.SysCommands : Prop :=
  ∀ s : State,
    (encode .sysNop = 0x00000000#32 ∧ encode .sysClrstat = 0x00400000#32 ∧ encode .sysSetctx = 0x00C00000#32)
      ∧ exec .sysNop s = .next (s.after 0#32)
      ∧ exec .sysClrstat s = .next { s with status := 0#32 }
      ∧ (1 < s.iarg.toNat ∨ s.params.fmt.isFinite s.a0 = false ∨ s.params.fmt.lt 0#64 s.a0 = false →
          exec .sysSetctx s = .next (s.after 0x8080#32))
      ∧ (s.params.fmt.isFinite s.a0 = true → s.params.fmt.lt 0#64 s.a0 = true →
          (s.iarg = 0#32 → exec .sysSetctx s = .next { s.after 0#32 with sr := s.a0 })
            ∧ (s.iarg = 1#32 → exec .sysSetctx s = .next { s.after 0#32 with kr := s.a0 }))

/-! ### Delay lines -/

/-- R131, R132: the capacity, buffer and indices dln.cfg gives, its refusal above MAXCAP, and the read index dln.setdel gives a sized
line, with the clamps and the refusal of NaN. The lag is compared with cap - 1 exactly, and a clamped lag is that integer. -/
def Obligations.DlnConfigure : Prop :=
  ∀ (s : State) (n : Nat) (u : Dln), s.units.dln[n]? = some u →
    let f := s.params.fmt
    let q := s.iarg.toNat
    let put := fun d : Dln => { s.units with dln := s.units.dln.set n d }
    let at_ := fun d : Int => { u with r := (((u.w : Int) - d) % (u.cap : Int)).toNat }
    ((Instr.dlnCfg n).HasCode 1 0 ∧ (Instr.dlnSetdel n).HasCode 1 1)
      ∧ (s.params.maxCap < q + 1 → exec (.dlnCfg n) s = .next (s.after 0x8080#32))
      ∧ (q + 1 ≤ s.params.maxCap →
          exec (.dlnCfg n) s =
            .next { s.after 0#32 with
                    units := put ⟨q + 1, 0, ((0 - (q : Int)) % ((q : Int) + 1)).toNat, 0#64, List.replicate (q + 1) 0#64⟩ })
      ∧ (u.cap = 0 → exec (.dlnSetdel n) s = .next (s.after 0x8008#32))
      ∧ (0 < u.cap →
          if f.isNaN s.a0 then exec (.dlnSetdel n) s = .next (s.after 0x8080#32)
          else if f.gtNat s.a0 (u.cap - 1) then
            exec (.dlnSetdel n) s = .next { s.after 0x1#32 with units := put (at_ (u.cap - 1 : Nat)) }
          else if f.lt s.a0 0#64 then exec (.dlnSetdel n) s = .next { s.after 0x1#32 with units := put (at_ 0) }
          else exec (.dlnSetdel n) s = .next { s.after 0#32 with units := put (at_ (f.trunc s.a0)) })

/-- R133, R134, R73: a tick of a sized integer line writes its input word, then reads its output word, and moves both indices by one;
dln.last returns the last output and changes no unit. -/
def Obligations.DlnTickAndLast : Prop :=
  ∀ (s : State) (n : Nat) (u : Dln), s.units.dln[n]? = some u →
    ((Instr.dlnTick n).HasCode 1 2 ∧ (Instr.dlnLast n).HasCode 1 3)
      ∧ (u.Wf s.params.maxCap → 0 < u.cap →
        ∃ v, (u.buf.set u.w s.a0)[u.r]? = some v
          ∧ exec (.dlnTick n) s =
            .next { s.after 0#32 with
                    y := v
                    units := { s.units with
                      dln := s.units.dln.set n
                        ⟨u.cap, (u.w + 1) % u.cap, (u.r + 1) % u.cap, v, u.buf.set u.w s.a0⟩ } })
      ∧ (u.cap = 0 → exec (.dlnTick n) s = .next (s.after 0x8008#32))
      ∧ exec (.dlnLast n) s = .next { s.after 0#32 with y := u.last }

/-- R135: with a fixed delay d = (w - r) mod cap, the value written by tick number t is returned by tick number t + d. -/
def Obligations.DlnDelayGuarantee : Prop :=
  ∀ (s : State) (n : Nat) (u : Dln) (xs : List Flt) (t : Nat), s.units.dln[n]? = some u → u.Wf s.params.maxCap → 0 < u.cap →
    let d := (((u.w : Int) - (u.r : Int)) % (u.cap : Int)).toNat
    t + d < xs.length → (State.ticks (.dlnTick n) xs s)[t + d]? = xs[t]?

/-- R141, R142: the capacity, buffer and memory dla.cfg gives, its refusals, and the read index, alpha and coefficient that a lag gives,
with the clamps to [2, cap - 1] and the refusal of NaN. Which FLT stands for an integer lag that FLT does not hold is the model's choice
(log 15). -/
def Obligations.DlaConfigure : Prop :=
  ∀ (s : State) (n : Nat) (u : Dla), s.units.dla[n]? = some u →
    let f := s.params.fmt
    let q := s.iarg.toNat
    let put := fun d : Dla => { s.units with dla := s.units.dla.set n d }
    let place := fun (d : Dla) (l : Flt) =>
      let p := f.wrap (f.add (f.sub (f.fromNat d.w) l) (f.lit 2 1)) d.cap
      let r := (f.floor p).toNat
      let a := f.sub (f.add f.one (f.fromNat r)) p
      if f.lt a (f.lit 1 10) then
        { d with
          r := (r + 1) % d.cap, alpha := f.add a f.one
          coeff := f.div (f.sub f.one (f.add a f.one)) (f.add f.one (f.add a f.one)) }
      else { d with r := r, alpha := a, coeff := f.div (f.sub f.one a) (f.add f.one a) }
    let high := f.gtNat s.a0 (u.cap - 1)
    let low := f.lt s.a0 (f.lit 2 1)
    let lag := if high then f.fromNatDown (Nat.max (u.cap - 1) 2) else if low then f.fromNatDown 2 else s.a0
    ((Instr.dlaCfg n).HasCode 2 0 ∧ (Instr.dlaSetdel n).HasCode 2 1)
      ∧ (q < 2 ∨ s.params.maxCap < q + 1 → exec (.dlaCfg n) s = .next (s.after 0x8080#32))
      ∧ (2 ≤ q → q + 1 ≤ s.params.maxCap →
          exec (.dlaCfg n) s =
            .next { s.after 0#32 with
                    units := put (place ⟨q + 1, 0, u.r, u.alpha, u.coeff, 0#64, 0#64, List.replicate (q + 1) 0#64⟩ (f.fromNatDown q)) })
      ∧ (u.cap = 0 → exec (.dlaSetdel n) s = .next (s.after 0x8008#32))
      ∧ (0 < u.cap → f.isNaN s.a0 = true → exec (.dlaSetdel n) s = .next (s.after 0x8080#32))
      ∧ (0 < u.cap → f.isNaN s.a0 = false →
          exec (.dlaSetdel n) s =
            .next { s.after (if high || low then 0x1#32 else 0#32) with units := put (place u lag) })

/-- R143, R144, R73: a tick of a sized all-pass line writes before it reads, applies the all-pass recursion in its written order and
stores its memory; dla.last returns the last output. The unary minus is the IEEE negate by inference (log 18). -/
def Obligations.DlaTickAndLast : Prop :=
  ∀ (s : State) (n : Nat) (u : Dla), s.units.dla[n]? = some u →
    let f := s.params.fmt
    ((Instr.dlaTick n).HasCode 2 2 ∧ (Instr.dlaLast n).HasCode 2 3)
      ∧ (u.Wf s.params.maxCap → 0 < u.cap →
        ∃ t, (u.buf.set u.w s.a0)[u.r]? = some t
          ∧ exec (.dlaTick n) s =
            .next { s.after 0#32 with
                    y := f.add (f.neg (f.mul u.coeff u.last)) (f.add u.lastIn (f.mul u.coeff t))
                    units := { s.units with
                      dla := s.units.dla.set n
                        { u with
                          w := (u.w + 1) % u.cap, r := (u.r + 1) % u.cap, lastIn := t, buf := u.buf.set u.w s.a0
                          last := f.add (f.neg (f.mul u.coeff u.last)) (f.add u.lastIn (f.mul u.coeff t)) } } })
      ∧ (u.cap = 0 → exec (.dlaTick n) s = .next (s.after 0x8008#32))
      ∧ exec (.dlaLast n) s = .next { s.after 0#32 with y := u.last }

/-- R151, R152: the capacity and buffer dll.cfg gives, its refusals, and the read index and alpha that a lag gives, with the clamps to
[0, cap - 1] and the refusal of NaN. Which FLT stands for an integer lag that FLT does not hold is the model's choice (log 15). -/
def Obligations.DllConfigure : Prop :=
  ∀ (s : State) (n : Nat) (u : Dll), s.units.dll[n]? = some u →
    let f := s.params.fmt
    let q := s.iarg.toNat
    let put := fun d : Dll => { s.units with dll := s.units.dll.set n d }
    let place := fun (d : Dll) (l : Flt) =>
      let p := f.wrap (f.sub (f.fromNat d.w) l) d.cap
      { d with r := (f.floor p).toNat, alpha := f.sub p (f.fromNat (f.floor p).toNat) }
    let high := f.gtNat s.a0 (u.cap - 1)
    let low := f.lt s.a0 (f.lit 0 1)
    let lag := if high then f.fromNatDown (u.cap - 1) else if low then f.fromNatDown 0 else s.a0
    ((Instr.dllCfg n).HasCode 3 0 ∧ (Instr.dllSetdel n).HasCode 3 1)
      ∧ (q < 1 ∨ s.params.maxCap < q + 1 → exec (.dllCfg n) s = .next (s.after 0x8080#32))
      ∧ (1 ≤ q → q + 1 ≤ s.params.maxCap →
          exec (.dllCfg n) s =
            .next { s.after 0#32 with
                    units := put (place ⟨q + 1, 0, u.r, u.alpha, 0#64, List.replicate (q + 1) 0#64⟩ (f.fromNatDown q)) })
      ∧ (u.cap = 0 → exec (.dllSetdel n) s = .next (s.after 0x8008#32))
      ∧ (0 < u.cap → f.isNaN s.a0 = true → exec (.dllSetdel n) s = .next (s.after 0x8080#32))
      ∧ (0 < u.cap → f.isNaN s.a0 = false →
          exec (.dllSetdel n) s =
            .next { s.after (if high || low then 0x1#32 else 0#32) with units := put (place u lag) })

/-- R153, R154, R73: a tick of a sized linear line writes before it reads and blends the two words at the read position in its written
order; dll.last returns the last output without advancing. -/
def Obligations.DllTickAndLast : Prop :=
  ∀ (s : State) (n : Nat) (u : Dll), s.units.dll[n]? = some u →
    let f := s.params.fmt
    ((Instr.dllTick n).HasCode 3 2 ∧ (Instr.dllLast n).HasCode 3 3)
      ∧ (u.Wf s.params.maxCap → 0 < u.cap →
        ∃ a b, (u.buf.set u.w s.a0)[u.r]? = some a ∧ (u.buf.set u.w s.a0)[(u.r + 1) % u.cap]? = some b
          ∧ exec (.dllTick n) s =
            .next { s.after 0#32 with
                    y := f.add (f.mul a (f.sub f.one u.alpha)) (f.mul b u.alpha)
                    units := { s.units with
                      dll := s.units.dll.set n
                        { u with
                          w := (u.w + 1) % u.cap, r := (u.r + 1) % u.cap, buf := u.buf.set u.w s.a0
                          last := f.add (f.mul a (f.sub f.one u.alpha)) (f.mul b u.alpha) } } })
      ∧ (u.cap = 0 → exec (.dllTick n) s = .next (s.after 0x8008#32))
      ∧ exec (.dllLast n) s = .next { s.after 0#32 with y := u.last }

/-- R130: on a line of capacity 0 every delay command but CFG and LAST raises ERR_UNSIZED and is abandoned; LAST returns the `last`
field and raises nothing. -/
def Obligations.UnsizedLines : Prop :=
  ∀ (s : State) (n : Nat),
    (∀ u, s.units.dln[n]? = some u → u.cap = 0 →
        exec (.dlnSetdel n) s = .next (s.after 0x8008#32) ∧ exec (.dlnTick n) s = .next (s.after 0x8008#32)
          ∧ exec (.dlnLast n) s = .next { s.after 0#32 with y := u.last })
      ∧ (∀ u, s.units.dla[n]? = some u → u.cap = 0 →
        exec (.dlaSetdel n) s = .next (s.after 0x8008#32) ∧ exec (.dlaTick n) s = .next (s.after 0x8008#32)
          ∧ exec (.dlaLast n) s = .next { s.after 0#32 with y := u.last })
      ∧ (∀ u, s.units.dll[n]? = some u → u.cap = 0 →
        exec (.dllSetdel n) s = .next (s.after 0x8008#32) ∧ exec (.dllTick n) s = .next (s.after 0x8008#32)
          ∧ exec (.dllLast n) s = .next { s.after 0#32 with y := u.last })

/-! ### Filters -/

/-- R171-R173, R175: the poles biq.setfr gives with its two refusals, the zeros, the gain, and the cleared history. The
unary minus is the IEEE negate by inference (log 18). -/
def Obligations.BiqConfigure : Prop :=
  ∀ (s : State) (n : Nat) (u : Biq), s.units.biq[n]? = some u →
    let f := s.params.fmt
    let put := fun q : Biq => { s.units with biq := s.units.biq.set n q }
    ((Instr.biqSetfr n).HasCode 4 0 ∧ (Instr.biqSetegz n).HasCode 4 1 ∧ (Instr.biqSetgain n).HasCode 4 2
      ∧ (Instr.biqClear n).HasCode 4 4)
      ∧ (f.lt 0#64 s.sr = false → exec (.biqSetfr n) s = .next (s.after 0x8040#32))
      ∧ (f.lt 0#64 s.sr = true → f.isFinite s.a0 = false ∨ f.isFinite s.a1 = false →
          exec (.biqSetfr n) s = .next (s.after 0x8080#32))
      ∧ (f.lt 0#64 s.sr = true → f.isFinite s.a0 = true → f.isFinite s.a1 = true →
          exec (.biqSetfr n) s =
            .next { s.after 0#32 with
                    units := put
                      { u with
                        p0 := f.mul (f.mul (f.lit 2 1) s.a1) (f.cos s.params.libm (f.div (f.mul f.twoPi s.a0) s.sr))
                        p1 := f.neg (f.mul s.a1 s.a1) } })
      ∧ exec (.biqSetegz n) s = .next { s.after 0#32 with units := put { u with z0 := 0#64, z1 := f.lit (-1) 1 } }
      ∧ exec (.biqSetgain n) s = .next { s.after 0#32 with units := put { u with gain := s.a0 } }
      ∧ exec (.biqClear n) s =
          .next { s.after 0#32 with units := put { u with x1 := 0#64, x2 := 0#64, y1 := 0#64, y2 := 0#64 } }

/-- R174, R176: the direct-form recursion in its written order and the moved history; biq.last returns y1. -/
def Obligations.BiqTickAndLast : Prop :=
  ∀ (s : State) (n : Nat) (u : Biq), s.units.biq[n]? = some u →
    let f := s.params.fmt
    let xg := f.mul u.gain s.a0
    let y := f.add (f.add (f.add (f.add xg (f.mul u.z0 u.x1)) (f.mul u.z1 u.x2)) (f.mul u.p0 u.y1)) (f.mul u.p1 u.y2)
    ((Instr.biqTick n).HasCode 4 3 ∧ (Instr.biqLast n).HasCode 4 5)
      ∧ exec (.biqTick n) s =
        .next { s.after 0#32 with
                y := y
                units := { s.units with biq := s.units.biq.set n { u with x2 := u.x1, x1 := xg, y2 := u.y1, y1 := y } } }
      ∧ exec (.biqLast n) s = .next { s.after 0#32 with y := u.y1 }

/-- R180-R183, R185-R188, R190, R191: the one-pole's and the one-zero's gain and coefficient, each recomputing the scale (g(1 - |c|)
and g/(1 + |c|)); the ticks and last outputs of the one-pole, the one-zero and the DC blocker. -/
def Obligations.FirstOrderFilters : Prop :=
  (∀ (s : State) (n : Nat) (u : Opole), s.units.opole[n]? = some u →
      let f := s.params.fmt
      let put := fun q : Opole => { s.units with opole := s.units.opole.set n q }
      let y := f.add (f.mul u.sgain s.a0) (f.mul u.coef u.y1)
      ((Instr.opoleSetgain n).HasCode 5 0 ∧ (Instr.opoleSetcoef n).HasCode 5 1 ∧ (Instr.opoleTick n).HasCode 5 2
        ∧ (Instr.opoleLast n).HasCode 5 3)
        ∧ exec (.opoleSetgain n) s =
          .next { s.after 0#32 with units := put ⟨s.a0, u.coef, f.mul s.a0 (f.sub f.one (f.abs u.coef)), u.y1⟩ }
        ∧ exec (.opoleSetcoef n) s =
          .next { s.after 0#32 with units := put ⟨u.gain, s.a0, f.mul u.gain (f.sub f.one (f.abs s.a0)), u.y1⟩ }
        ∧ exec (.opoleTick n) s = .next { s.after 0#32 with y := y, units := put { u with y1 := y } }
        ∧ exec (.opoleLast n) s = .next { s.after 0#32 with y := u.y1 })
    ∧ (∀ (s : State) (n : Nat) (u : Ozero), s.units.ozero[n]? = some u →
      let f := s.params.fmt
      let put := fun q : Ozero => { s.units with ozero := s.units.ozero.set n q }
      let y := f.mul u.sgain (f.add (f.mul u.coef u.x1) s.a0)
      ((Instr.ozeroSetgain n).HasCode 6 0 ∧ (Instr.ozeroSetcoef n).HasCode 6 1 ∧ (Instr.ozeroTick n).HasCode 6 2
        ∧ (Instr.ozeroLast n).HasCode 6 3)
        ∧ exec (.ozeroSetgain n) s =
          .next { s.after 0#32 with units := put ⟨s.a0, u.coef, f.div s.a0 (f.add f.one (f.abs u.coef)), u.x1, u.last⟩ }
        ∧ exec (.ozeroSetcoef n) s =
          .next { s.after 0#32 with units := put ⟨u.gain, s.a0, f.div u.gain (f.add f.one (f.abs s.a0)), u.x1, u.last⟩ }
        ∧ exec (.ozeroTick n) s = .next { s.after 0#32 with y := y, units := put { u with x1 := s.a0, last := y } }
        ∧ exec (.ozeroLast n) s = .next { s.after 0#32 with y := u.last })
    ∧ ∀ (s : State) (n : Nat) (u : Dcb), s.units.dcb[n]? = some u →
      let f := s.params.fmt
      let y := f.add (f.sub s.a0 u.x1) (f.mul s.params.dcbR u.y1)
      ((Instr.dcbTick n).HasCode 7 0 ∧ (Instr.dcbLast n).HasCode 7 1)
        ∧ exec (.dcbTick n) s = .next { s.after 0#32 with y := y, units := { s.units with dcb := s.units.dcb.set n ⟨s.a0, y⟩ } }
        ∧ exec (.dcbLast n) s = .next { s.after 0#32 with y := u.y1 }

/-! ### Envelopes -/

/-- R211: adsr.settimes stores the three rates 1/(t·B) (1.0 for a time not > 0) and the sustain level, and refuses an unset basis and a
NaN operand. -/
def Obligations.AdsrSettimes : Prop :=
  ∀ (s : State) (n : Nat) (u : Adsr), s.units.adsr[n]? = some u →
    let f := s.params.fmt
    let b := match s.params.rateBasis with
      | .kr => s.kr
      | .sr => s.sr
    let rate := fun t : Flt => if f.lt 0#64 t then f.div f.one (f.mul t b) else f.one
    let nan := f.isNaN s.a0 || f.isNaN s.a1 || f.isNaN s.a2 || f.isNaN s.a3
    ((Instr.adsrSettimes n).HasCode 8 0)
      ∧ (f.lt 0#64 b = false → exec (.adsrSettimes n) s = .next (s.after 0x8040#32))
      ∧ (f.lt 0#64 b = true → nan = true → exec (.adsrSettimes n) s = .next (s.after 0x8080#32))
      ∧ (f.lt 0#64 b = true → nan = false →
          exec (.adsrSettimes n) s =
            .next { s.after 0#32 with
                    units := { s.units with
                      adsr := s.units.adsr.set n
                        { u with attackRate := rate s.a0, decayRate := rate s.a1, sustain := s.a2, releaseRate := rate s.a3 } } })

/-- R213, R214, R221: a rate operand that is NaN is refused, a negative one is stored as its magnitude with WARN_RATE, another as it is. -/
def Obligations.EnvelopeRates : Prop :=
  ∀ (s : State) (n : Nat),
    let f := s.params.fmt
    let r := if f.lt s.a0 0#64 then f.abs s.a0 else s.a0
    let w := if f.lt s.a0 0#64 then 0x4#32 else 0#32
    ((Instr.adsrSetatk n).HasCode 8 2 ∧ (Instr.adsrSetrel n).HasCode 8 3 ∧ (Instr.envSetrate n).HasCode 9 0)
      ∧ (∀ u, s.units.adsr[n]? = some u →
        (f.isNaN s.a0 = true →
            exec (.adsrSetatk n) s = .next (s.after 0x8080#32) ∧ exec (.adsrSetrel n) s = .next (s.after 0x8080#32))
          ∧ (f.isNaN s.a0 = false →
            exec (.adsrSetatk n) s =
                .next { s.after w with units := { s.units with adsr := s.units.adsr.set n { u with attackRate := r } } }
              ∧ exec (.adsrSetrel n) s =
                .next { s.after w with units := { s.units with adsr := s.units.adsr.set n { u with releaseRate := r } } }))
      ∧ ∀ u, s.units.env[n]? = some u →
        (f.isNaN s.a0 = true → exec (.envSetrate n) s = .next (s.after 0x8080#32))
          ∧ (f.isNaN s.a0 = false →
            exec (.envSetrate n) s =
              .next { s.after w with units := { s.units with env := s.units.env.set n { u with rate := r } } })

/-- R212, R215, R216, R222-R224: the targets, phases and rates that settarget, keyon and keyoff give the two envelopes; the value is
kept. -/
def Obligations.EnvelopeSegments : Prop :=
  ∀ (s : State) (n : Nat),
    let f := s.params.fmt
    ((Instr.adsrSettarget n).HasCode 8 1 ∧ (Instr.adsrKeyon n).HasCode 8 4 ∧ (Instr.adsrKeyoff n).HasCode 8 5
      ∧ (Instr.envSettarget n).HasCode 9 1 ∧ (Instr.envKeyon n).HasCode 9 2 ∧ (Instr.envKeyoff n).HasCode 9 3)
      ∧ (∀ u, s.units.adsr[n]? = some u →
        let put := fun e : Adsr => { s.units with adsr := s.units.adsr.set n e }
        exec (.adsrSettarget n) s = .next { s.after 0#32 with units := put { u with target := s.a0 } }
          ∧ exec (.adsrKeyon n) s =
            .next { s.after 0#32 with units := put { u with phase := .attack, target := f.lit 1 1, rate := u.attackRate } }
          ∧ exec (.adsrKeyoff n) s =
            .next { s.after 0#32 with units := put { u with phase := .release, target := 0#64, rate := u.releaseRate } })
      ∧ ∀ u, s.units.env[n]? = some u →
        let put := fun e : Env => { s.units with env := s.units.env.set n e }
        exec (.envSettarget n) s = .next { s.after 0#32 with units := put { u with target := s.a0 } }
          ∧ exec (.envKeyon n) s = .next { s.after 0#32 with units := put { u with phase := .attack, target := f.lit 1 1 } }
          ∧ exec (.envKeyoff n) s = .next { s.after 0#32 with units := put { u with phase := .release, target := 0#64 } }

/-- R210, R217, R218, R225, R226: one step toward the target, clamped exactly at it, is the tick of both envelopes; LAST returns the
value. -/
def Obligations.EnvelopeTicks : Prop :=
  ∀ (s : State) (n : Nat),
    let f := s.params.fmt
    let next := fun value target rate : Flt =>
      if f.lt value target then if f.le target (f.add value rate) then target else f.add value rate
      else if f.lt target value then if f.le (f.sub value rate) target then target else f.sub value rate
      else value
    ((Instr.adsrTick n).HasCode 8 6 ∧ (Instr.adsrLast n).HasCode 8 7 ∧ (Instr.envTick n).HasCode 9 4 ∧ (Instr.envLast n).HasCode 9 5)
      ∧ (∀ u, s.units.adsr[n]? = some u →
        let v := next u.value u.target u.rate
        exec (.adsrTick n) s =
            .next { s.after 0#32 with y := v, units := { s.units with adsr := s.units.adsr.set n { u with value := v } } }
          ∧ exec (.adsrLast n) s = .next { s.after 0#32 with y := u.value })
      ∧ ∀ u, s.units.env[n]? = some u →
        let v := next u.value u.target u.rate
        exec (.envTick n) s =
            .next { s.after 0#32 with y := v, units := { s.units with env := s.units.env.set n { u with value := v } } }
          ∧ exec (.envLast n) s = .next { s.after 0#32 with y := u.value }

/-- R219: for a rate >= 0 and finite value and target, a tick of either envelope moves the value toward the target, never past it, and
lands on it where the distance is at most the rate (exact values, in units of the smallest subnormal). -/
def Obligations.EnvelopesNeverOvershoot : Prop :=
  ∀ (s : State) (n : Nat) (value target rate : Flt),
    let f := s.params.fmt
    f.isFinite value = true → f.isFinite target = true → f.le 0#64 rate = true →
    let good := fun y : Flt =>
      (f.lt value target = true →
          f.le value y = true ∧ f.le y target = true ∧ (f.value target - f.value value ≤ f.value rate → y = target))
        ∧ (f.lt target value = true →
          f.le target y = true ∧ f.le y value = true ∧ (f.value value - f.value target ≤ f.value rate → y = target))
        ∧ (f.lt value target = false → f.lt target value = false → y = value)
    (∀ u, s.units.adsr[n]? = some u → u.value = value → u.target = target → u.rate = rate →
        ∃ t, exec (.adsrTick n) s = .next t ∧ good t.y)
      ∧ ∀ u, s.units.env[n]? = some u → u.value = value → u.target = target → u.rate = rate →
        ∃ t, exec (.envTick n) s = .next t ∧ good t.y

/-! ### Tables, noise, vibrato -/

/-- R240, R241, R243-R245, R247: the shaping parameters that BOW and REED store, and the three lookups, which change nothing but Y. -/
def Obligations.NonlinearTables : Prop :=
  ∀ (s : State) (n : Nat),
    let f := s.params.fmt
    let clamp := fun v : Flt => if f.lt v (f.lit (-1) 1) then f.lit (-1) 1 else if f.lt f.one v then f.one else v
    ((Instr.bowSetslope n).HasCode 10 0 ∧ (Instr.bowLookup n).HasCode 10 1 ∧ (Instr.reedSetoffset n).HasCode 11 0
      ∧ (Instr.reedSetslope n).HasCode 11 1 ∧ (Instr.reedLookup n).HasCode 11 2 ∧ (Instr.jetLookup n).HasCode 12 0)
      ∧ (∀ u, s.units.bow[n]? = some u →
        let a := f.add (f.abs (f.mul s.a0 u.slope)) (f.lit 3 4)
        let y := f.div f.one (f.mul (f.mul a a) (f.mul a a))
        exec (.bowSetslope n) s = .next { s.after 0#32 with units := { s.units with bow := s.units.bow.set n ⟨s.a0⟩ } }
          ∧ exec (.bowLookup n) s = .next { s.after 0#32 with y := if f.lt f.one y then f.one else y })
      ∧ (∀ u, s.units.reed[n]? = some u →
        exec (.reedSetoffset n) s =
            .next { s.after 0#32 with units := { s.units with reed := s.units.reed.set n ⟨s.a0, u.slope⟩ } }
          ∧ exec (.reedSetslope n) s =
            .next { s.after 0#32 with units := { s.units with reed := s.units.reed.set n ⟨u.offset, s.a0⟩ } }
          ∧ exec (.reedLookup n) s = .next { s.after 0#32 with y := clamp (f.add u.offset (f.mul u.slope s.a0)) })
      ∧ ∀ u, s.units.jet[n]? = some u →
        exec (.jetLookup n) s =
          .next { s.after 0#32 with y := clamp (f.sub (f.mul (f.mul s.a0 s.a0) s.a0) s.a0) }

/-- R248 (its bounds as §8 property 4 gives them): for finite input and finite shaping parameters a BOW lookup is a number in [0, 1],
REED and JET lookups are numbers in [-1, 1]. -/
def Obligations.LookupsSaturate : Prop :=
  ∀ (s : State) (n : Nat),
    let f := s.params.fmt
    f.isFinite s.a0 = true →
    (∀ u, s.units.bow[n]? = some u → f.isFinite u.slope = true →
        ∃ t, exec (.bowLookup n) s = .next t ∧ f.le 0#64 t.y = true ∧ f.le t.y f.one = true)
      ∧ (∀ u, s.units.reed[n]? = some u → f.isFinite u.offset = true → f.isFinite u.slope = true →
        ∃ t, exec (.reedLookup n) s = .next t ∧ f.le (f.lit (-1) 1) t.y = true ∧ f.le t.y f.one = true)
      ∧ ∀ u, s.units.jet[n]? = some u →
        ∃ t, exec (.jetLookup n) s = .next t ∧ f.le (f.lit (-1) 1) t.y = true ∧ f.le t.y f.one = true

/-- R250, R251 (log 6): noise.tick takes one draw, stores it and returns it; every draw is a number in [-1, 1]; noise.last returns the
stored value and draws nothing. -/
def Obligations.NoiseCommands : Prop :=
  ∀ (s : State) (n : Nat) (u : Noise), s.units.noise[n]? = some u →
    let f := s.params.fmt
    let d := drawStep s
    ((Instr.noiseTick n).HasCode 13 0 ∧ (Instr.noiseLast n).HasCode 13 1)
      ∧ exec (.noiseTick n) s =
        .next { s.after 0#32 with
                y := d.1, noiseIn := d.2.1, free := d.2.2
                units := { s.units with noise := s.units.noise.set n ⟨d.1⟩ } }
      ∧ f.le (f.lit (-1) 1) d.1 = true ∧ f.le d.1 f.one = true
      ∧ exec (.noiseLast n) s = .next { s.after 0#32 with y := u.last }

/-- R253, R254: vib.settab captures a table and its length, restarts the phase and recomputes the rate where SR is set, and refuses an
absent table; vib.setfreq stores the frequency and the rate, and refuses an unset SR and a frequency not finite. -/
def Obligations.VibConfigure : Prop :=
  ∀ (s : State) (n : Nat) (u : Vib), s.units.vib[n]? = some u →
    let f := s.params.fmt
    let len := tableLen s.tables s.iarg.toNat
    let put := fun v : Vib => { s.units with vib := s.units.vib.set n v }
    ((Instr.vibSettab n).HasCode 14 0 ∧ (Instr.vibSetfreq n).HasCode 14 1)
      ∧ (len = 0 → exec (.vibSettab n) s = .next (s.after 0x8010#32))
      ∧ (len ≠ 0 →
          exec (.vibSettab n) s =
            .next { s.after 0#32 with
                    units := put
                      { u with
                        tab := s.iarg, len := len, phase := 0#64, last := 0#64
                        rate := if f.lt 0#64 s.sr then f.div (f.mul u.freq (f.fromNat len)) s.sr else u.rate } })
      ∧ (f.lt 0#64 s.sr = false → exec (.vibSetfreq n) s = .next (s.after 0x8040#32))
      ∧ (f.lt 0#64 s.sr = true → f.isFinite s.a0 = false → exec (.vibSetfreq n) s = .next (s.after 0x8080#32))
      ∧ (f.lt 0#64 s.sr = true → f.isFinite s.a0 = true →
          exec (.vibSetfreq n) s =
            .next { s.after 0#32 with
                    units := put { u with freq := s.a0, rate := f.div (f.mul s.a0 (f.fromNat u.len)) s.sr } })

/-- R255, R256: vib.tick advances and wraps the phase, reads the table at it with linear interpolation and returns the value; without a
table it raises ERR_STATE; where the table still has the captured length both words read are the table's. -/
def Obligations.VibTickAndLast : Prop :=
  ∀ (s : State) (n : Nat) (u : Vib), s.units.vib[n]? = some u →
    let f := s.params.fmt
    let v := vibStep s u s.free
    ((Instr.vibTick n).HasCode 14 2 ∧ (Instr.vibLast n).HasCode 14 3)
      ∧ (u.len = 0 → exec (.vibTick n) s = .next (s.after 0x8040#32))
      ∧ (0 < u.len →
          exec (.vibTick n) s =
            .next { s.after 0#32 with
                    y := v.1, free := v.2.2, units := { s.units with vib := s.units.vib.set n v.2.1 } })
      ∧ (∀ words, u.tab ≠ 0#32 → Assoc.find u.tab.toNat s.tables = some words → words.length = u.len → 0 < u.len →
          let i := (f.floor v.2.1.phase).toNat
          ∃ a b, words[i]? = some a ∧ words[(i + 1) % u.len]? = some b ∧ v.2.2 = s.free
            ∧ v.1 = f.add a (f.mul (f.sub v.2.1.phase (f.fromNat i)) (f.sub b a)))
      ∧ exec (.vibLast n) s = .next { s.after 0#32 with y := u.last }

/-- R11: fmod_wrap puts every number into [0, m), leaves a number already there as it is, and gives +0 for every multiple of m. Of a
finite number p it is the representative of p in [0, m), computed exactly and rounded once, or +0 where that rounds up to m; that a
result rounding past an m that FLT does not hold is +0 too is the model's choice (log 31), as is the range for a number that is not
finite (log 8). -/
def Obligations.WrapIsInRange : Prop :=
  ∀ (f : Fmt) (p : Flt) (m : Nat), 0 < m →
    f.inRange (f.wrap p m) m = true
      ∧ (f.inRange p m = true → f.fit p = p → f.wrap p m = p)
      ∧ (f.isFinite p = true → ((m * 2 ^ f.unit : Nat) : Int) ∣ f.value p → f.wrap p m = 0#64)
      ∧ (f.isFinite p = true →
        let v := f.ofScaled (f.value p % ((m * 2 ^ f.unit : Nat) : Int)) 1
        f.wrap p m = if f.isFinite v = true ∧ f.value v < ((m * 2 ^ f.unit : Nat) : Int) then v else 0#64)

/-! ### Models -/

/-- R272: `<m>.setctl` of the five models. -/
def Obligations.ModelSetctl : Prop :=
  (∀ n : Nat, (Instr.barSetctl n).HasCode 16 0 ∧ (Instr.clarSetctl n).HasCode 17 0 ∧ (Instr.fluteSetctl n).HasCode 18 0
      ∧ (Instr.bowedSetctl n).HasCode 19 0 ∧ (Instr.brassSetctl n).HasCode 20 0)
    ∧ SetctlRule barKit (·.models.bar) State.putBar .barSetctl ∧ SetctlRule clarKit (·.models.clar) State.putClar .clarSetctl
    ∧ SetctlRule fluteKit (·.models.flute) State.putFlute .fluteSetctl
    ∧ SetctlRule bowedKit (·.models.bowed) State.putBowed .bowedSetctl
    ∧ SetctlRule brassKit (·.models.brass) State.putBrass .brassSetctl

/-- R289, R285, R270: `<m>.release` of the five models, and RELEASE and RENDER of an instance that is not RUNNING. -/
def Obligations.ModelRelease : Prop :=
  (∀ n : Nat, (Instr.barRelease n).HasCode 16 3 ∧ (Instr.clarRelease n).HasCode 17 3 ∧ (Instr.fluteRelease n).HasCode 18 3
      ∧ (Instr.bowedRelease n).HasCode 19 3 ∧ (Instr.brassRelease n).HasCode 20 3)
    ∧ ReleaseRule barKit (·.models.bar) State.putBar .barRelease .barRender
    ∧ ReleaseRule clarKit (·.models.clar) State.putClar .clarRelease .clarRender
    ∧ ReleaseRule fluteKit (·.models.flute) State.putFlute .fluteRelease .fluteRender
    ∧ ReleaseRule bowedKit (·.models.bowed) State.putBowed .bowedRelease .bowedRender
    ∧ ReleaseRule brassKit (·.models.brass) State.putBrass .brassRelease .brassRender

/-- R276, R274, R275: the failing INITs of the five models, with the period factors and the FMAX of R300. -/
def Obligations.InitFailures : Prop :=
  InitFailsRule barKit (·.models.bar) State.putBar .barInit false (·.params.bar.km) (fun s => s.params.fmt.lit 1568 1)
    ∧ InitFailsRule clarKit (·.models.clar) State.putClar .clarInit true (·.params.clar.km)
        (fun s => noteFmax s s.params.clar.fmax)
    ∧ InitFailsRule fluteKit (·.models.flute) State.putFlute .fluteInit true (fun s => s.params.fmt.lit 3 2)
        (fun s => noteFmax s s.params.flute.fmax)
    ∧ InitFailsRule bowedKit (·.models.bowed) State.putBowed .bowedInit true (·.params.bowed.km)
        (fun s => noteFmax s s.params.bowed.fmax)
    ∧ InitFailsRule brassKit (·.models.brass) State.putBrass .brassInit true (·.params.brass.km)
        (fun s => noteFmax s s.params.brass.fmax)

/-- R276, R303, R306-R309: a BAR INIT whose request fits and whose lags and filter settings are numbers starts the note: four lines of
capacity Nm + 1 set to (SR/f)/ratio, four biquads tuned to their modes, the mode gains, the bow and the ADSR keyed on. The i-rate
controls are read at INIT (log 30, the model's choice); the unary minus of a pole is the IEEE negate by inference (log 18). -/
def Obligations.BarInitStarts : Prop :=
  ∀ (s : State) (n : Nat) (m : Bar) (q : Nat), s.models.bar[n]? = some m →
    let f := s.params.fmt
    let p := s.params.bar
    let c := fun x : Fin 16 => m.hdr.ctl.get x
    let fmax := f.lit 1568 1
    let fr := noteFreq f (c 1) (noteMinF s m.hdr fmax) fmax
    let rad := fun ratio : Flt => f.sub f.one (f.div (f.mul (f.mul fr ratio) f.pi) s.sr)
    let r0 := f.lit 1 1
    let r1 := f.lit 2756 1000
    let r2 := f.lit 5404 1000
    let r3 := f.lit 8933 1000
    InitReady barKit s m false p.km fmax q → TimesLegal f p.times →
    (∀ ratio ∈ [r0, r1, r2, r3],
      f.isNaN (f.div (f.div s.sr fr) ratio) = false ∧ f.isFinite (f.mul fr ratio) = true ∧ f.isFinite (rad ratio) = true) →
    let tuned := fun (b : Branch) (ratio : Flt) (w : U32) =>
      (∃ d0, Dln.cfg s.params q = .ok 0 d0 ∧ d0.setdel f (f.div (f.div s.sr fr) ratio) = .ok w b.d)
        ∧ b.q = ⟨f.mul (f.mul (f.lit 2 1) (rad ratio))
              (f.cos s.params.libm (f.div (f.mul f.twoPi (f.mul fr ratio)) s.sr)),
            f.neg (f.mul (rad ratio) (rad ratio)), 0#64, f.lit (-1) 1,
            f.div (f.sub f.one (f.mul (rad ratio) (rad ratio))) (f.lit 2 1), 0#64, 0#64, 0#64, 0#64⟩
        ∧ b.gain = f.abs (f.sin s.params.libm (f.mul (f.mul f.pi (c 10)) ratio))
    ∃ m' w0 w1 w2 w3, Started barKit (·.models.bar) State.putBar .barInit [0, 1, 9, 10, 11, 13] s n m m' fmax (w0 ||| w1 ||| w2 ||| w3)
      ∧ tuned m'.k.k0 r0 w0 ∧ tuned m'.k.k1 r1 w1 ∧ tuned m'.k.k2 r2 w2 ∧ tuned m'.k.k3 r3 w3
      ∧ m'.bw = ⟨f.sub p.slopeBase (f.mul p.slopeStep (c 9))⟩ ∧ m'.ad = struck s p.times
      ∧ m'.maxVel = f.add p.velBase (f.mul p.velStep (f.mul (c 0) s.params.ampRscale))
      ∧ m'.bowTarg = f.add 0#64 (f.mul p.targStep (f.sub (c 11) (c 11)))
      ∧ m'.bowVel = 0#64 ∧ m'.vEst = 0#64 ∧ m'.lastTP = c 11

/-- R276, R321-R323: a CLAR INIT whose table is present, whose request fits and whose lag and vibrato frequency are numbers starts the
note. The i-rate controls are read at INIT (log 30, the model's choice). -/
def Obligations.ClarInitStarts : Prop :=
  ∀ (s : State) (n : Nat) (m : Clar) (q : Nat), s.models.clar[n]? = some m →
    let f := s.params.fmt
    let p := s.params.clar
    let c := fun x : Fin 16 => m.hdr.ctl.get x
    let fmax := noteFmax s p.fmax
    let fr := noteFreq f (c 1) (noteMinF s m.hdr fmax) fmax
    let lag := f.sub (f.div (f.mul p.lagFactor s.sr) fr) p.lagOffset
    let id := (f.trunc (c 5)).toNat
    let len := tableLen s.tables id
    InitReady clarKit s m true p.km fmax q → 1 ≤ q → f.isNaN lag = false → f.isFinite (c 6) = true →
    ∃ m' w, Started clarKit (·.models.clar) State.putClar .clarInit [0, 1, 6, 7, 8] s n m m' fmax w
      ∧ (∃ d0, Dll.cfg s.params q Dll.reset = .ok 0 d0 ∧ d0.setdel f lag = .ok w m'.dl)
      ∧ m'.oz = ⟨p.reflGain, p.reflCoef, f.div p.reflGain (f.add f.one (f.abs p.reflCoef)), 0#64, 0#64⟩
      ∧ m'.rd = ⟨p.reedOffset, p.reedSlope⟩ ∧ m'.ns = ⟨0#64⟩
      ∧ m'.env = ⟨0#64, f.add p.breathBase (f.mul p.breathStep (f.mul (c 0) s.params.ampRscale)), noteRate s (c 9), .attack⟩
      ∧ m'.vb = ⟨BitVec.ofNat 32 id, len, c 6, f.div (f.mul (c 6) (f.fromNat len)) s.sr, 0#64, 0#64⟩

/-- R276, R331-R333: a FLUTE INIT whose table is present, whose request fits and whose lags and vibrato frequency are numbers starts the
note. The i-rate controls are read at INIT (log 30, the model's choice). -/
def Obligations.FluteInitStarts : Prop :=
  ∀ (s : State) (n : Nat) (m : Flute) (q : Nat), s.models.flute[n]? = some m →
    let f := s.params.fmt
    let p := s.params.flute
    let c := fun x : Fin 16 => m.hdr.ctl.get x
    let fmax := noteFmax s p.fmax
    let fr := noteFreq f (c 1) (noteMinF s m.hdr fmax) fmax
    let lag := f.sub (f.div (f.mul (f.lit 3 2) s.sr) fr) p.lagOffset
    let pole := f.sub p.poleBase (f.div (f.mul p.poleStep p.poleRef) s.sr)
    let id := (f.trunc (c 5)).toNat
    let len := tableLen s.tables id
    InitReady fluteKit s m true (f.lit 3 2) fmax q → 1 ≤ q → TimesLegal f p.times →
    f.isNaN lag = false → f.isNaN (f.mul lag (c 9)) = false → f.isFinite (c 6) = true →
    ∃ m' w w', Started fluteKit (·.models.flute) State.putFlute .fluteInit [0, 1, 6, 7, 8, 9, 10, 11] s n m m' fmax (w ||| w')
      ∧ (∃ d0, Dll.cfg s.params q Dll.reset = .ok 0 d0 ∧ d0.setdel f lag = .ok w m'.bore
          ∧ d0.setdel f (f.mul lag (c 9)) = .ok w' m'.jet)
      ∧ m'.lp = ⟨p.lossGain, pole, f.mul p.lossGain (f.sub f.one (f.abs pole)), 0#64⟩ ∧ m'.dc = ⟨0#64, 0#64⟩
      ∧ m'.ad = struck s p.times ∧ m'.ns = ⟨0#64⟩
      ∧ m'.maxP = f.div (f.add p.pressBase (f.mul p.pressStep (f.mul (c 0) s.params.ampRscale))) p.pressDiv
      ∧ m'.vb = ⟨BitVec.ofNat 32 id, len, c 6, f.div (f.mul (c 6) (f.fromNat len)) s.sr, 0#64, 0#64⟩

/-- R276, R341-R343: a BOWED INIT whose table is present, whose request fits and whose lags, body settings and vibrato frequency are
numbers starts the note; the two lags split the base period by BETA. The i-rate controls are read at INIT (log 30, the model's choice);
the unary minus of the body's pole is the IEEE negate by inference (log 18). -/
def Obligations.BowedInitStarts : Prop :=
  ∀ (s : State) (n : Nat) (m : Bowed) (q : Nat), s.models.bowed[n]? = some m →
    let f := s.params.fmt
    let p := s.params.bowed
    let c := fun x : Fin 16 => m.hdr.ctl.get x
    let fmax := noteFmax s p.fmax
    let fr := noteFreq f (c 1) (noteMinF s m.hdr fmax) fmax
    let base := f.sub (f.div s.sr fr) p.comp
    let pole := f.sub p.poleBase (f.div (f.mul p.poleStep p.poleRef) s.sr)
    let id := (f.trunc (c 5)).toNat
    let len := tableLen s.tables id
    InitReady bowedKit s m true p.km fmax q → 1 ≤ q → TimesLegal f p.times →
    f.isFinite p.bodyFreq = true → f.isFinite p.bodyR = true → f.isNaN (f.mul base (c 10)) = false →
    f.isNaN (f.mul base (f.sub f.one (c 10))) = false → f.isFinite (c 6) = true →
    ∃ m' w w', Started bowedKit (·.models.bowed) State.putBowed .bowedInit [0, 1, 6, 7, 9, 10] s n m m' fmax (w ||| w')
      ∧ (∃ d0, Dll.cfg s.params q Dll.reset = .ok 0 d0 ∧ d0.setdel f (f.mul base (c 10)) = .ok w m'.bridge
          ∧ d0.setdel f (f.mul base (f.sub f.one (c 10))) = .ok w' m'.nut)
      ∧ m'.base = base ∧ m'.lp = ⟨p.lossGain, pole, f.mul p.lossGain (f.sub f.one (f.abs pole)), 0#64⟩
      ∧ m'.body = ⟨f.mul (f.mul (f.lit 2 1) p.bodyR) (f.cos s.params.libm (f.div (f.mul f.twoPi p.bodyFreq) s.sr)),
          f.neg (f.mul p.bodyR p.bodyR), 0#64, f.lit (-1) 1, p.bodyGain, 0#64, 0#64, 0#64, 0#64⟩
      ∧ m'.bw = ⟨f.sub p.slopeBase (f.mul p.slopeStep (c 9))⟩ ∧ m'.ad = struck s p.times
      ∧ m'.maxVel = f.add p.velBase (f.mul p.velStep (f.mul (c 0) s.params.ampRscale))
      ∧ m'.vb = ⟨BitVec.ofNat 32 id, len, c 6, f.div (f.mul (c 6) (f.fromNat len)) s.sr, 0#64, 0#64⟩

/-- R276, R349, R350: a BRASS INIT whose table is present, whose request fits and whose slide lag, lip settings and vibrato frequency are
numbers starts the note. The i-rate controls are read at INIT (log 30, the model's choice); the unary minus of the lip's pole is the IEEE
negate by inference (log 18). -/
def Obligations.BrassInitStarts : Prop :=
  ∀ (s : State) (n : Nat) (m : Brass) (q : Nat), s.models.brass[n]? = some m →
    let f := s.params.fmt
    let p := s.params.brass
    let c := fun x : Fin 16 => m.hdr.ctl.get x
    let fmax := noteFmax s p.fmax
    let fr := noteFreq f (c 1) (noteMinF s m.hdr fmax) fmax
    let lag := f.add (f.mul (f.div s.sr fr) p.lagFactor) p.lagOffset
    let lip := f.mul fr (f.pow s.params.libm p.lipBase (f.sub (f.mul p.lipScale (c 9)) p.lipShift))
    let id := (f.trunc (c 5)).toNat
    let len := tableLen s.tables id
    InitReady brassKit s m true p.km fmax q → 2 ≤ q → TimesLegal f p.times →
    f.isNaN lag = false → f.isFinite lip = true → f.isFinite p.lipR = true → f.isFinite (c 6) = true →
    ∃ m' w, Started brassKit (·.models.brass) State.putBrass .brassInit [0, 1, 6, 7, 9] s n m m' fmax w
      ∧ (∃ d0, Dla.cfg s.params q Dla.reset = .ok 0 d0 ∧ d0.setdel f lag = .ok w m'.bore)
      ∧ m'.lip = ⟨f.mul (f.mul (f.lit 2 1) p.lipR) (f.cos s.params.libm (f.div (f.mul f.twoPi lip) s.sr)),
          f.neg (f.mul p.lipR p.lipR), 0#64, 0#64, p.lipGain, 0#64, 0#64, 0#64, 0#64⟩
      ∧ m'.dc = ⟨0#64, 0#64⟩ ∧ m'.ad = struck s p.times ∧ m'.maxP = f.mul (c 0) s.params.ampRscale
      ∧ m'.vb = ⟨BitVec.ofNat 32 id, len, c 6, f.div (f.mul (c 6) (f.fromNat len)) s.sr, 0#64, 0#64⟩

/-- R285, R76, R353, R363, R400 (logs 11, 30): every RENDER of a running instance writes exactly the words of its block and leaves the
instance after them, or is abandoned by an error of its control update; CLAR and FLUTE take one draw for each sample, the others none.
A control that is not k-rate, changed after INIT, changes nothing of this. -/
def Obligations.RenderWritesTheBlock : Prop :=
  (RenderRule barKit (·.models.bar) State.putBar .barRender [0, 1, 9, 10, 11, 13] false
      ∧ IRateWaitsRule barKit (·.models.bar) State.putBar .barRender [0, 1, 9, 10, 11, 13])
    ∧ (RenderRule clarKit (·.models.clar) State.putClar .clarRender [0, 1, 6, 7, 8] true
      ∧ IRateWaitsRule clarKit (·.models.clar) State.putClar .clarRender [0, 1, 6, 7, 8])
    ∧ (RenderRule fluteKit (·.models.flute) State.putFlute .fluteRender [0, 1, 6, 7, 8, 9, 10, 11] true
      ∧ IRateWaitsRule fluteKit (·.models.flute) State.putFlute .fluteRender [0, 1, 6, 7, 8, 9, 10, 11])
    ∧ (RenderRule bowedKit (·.models.bowed) State.putBowed .bowedRender [0, 1, 6, 7, 9, 10] false
      ∧ IRateWaitsRule bowedKit (·.models.bowed) State.putBowed .bowedRender [0, 1, 6, 7, 9, 10])
    ∧ (RenderRule brassKit (·.models.brass) State.putBrass .brassRender [0, 1, 6, 7, 9] false
      ∧ IRateWaitsRule brassKit (·.models.brass) State.putBrass .brassRender [0, 1, 6, 7, 9])

/-- R285, R354: a block rendered in two parts is the block rendered at once. -/
def Obligations.RenderBlocksCompose : Prop :=
  SplitRule barKit (·.models.bar) .barRender [0, 1, 9, 10, 11, 13]
    ∧ SplitRule clarKit (·.models.clar) .clarRender [0, 1, 6, 7, 8]
    ∧ SplitRule fluteKit (·.models.flute) .fluteRender [0, 1, 6, 7, 8, 9, 10, 11]
    ∧ SplitRule bowedKit (·.models.bowed) .bowedRender [0, 1, 6, 7, 9, 10]
    ∧ SplitRule brassKit (·.models.brass) .brassRender [0, 1, 6, 7, 9]

/-- R290, R311, R326, R336, R346, R352: after RELEASE, the next RENDER leaves the model's envelope in its release phase with target 0,
and with the rate of its release action: the stored release rate of BAR and BOWED, RateOf(RELTIME) of CLAR, FLUTE and BRASS, RELTIME as
INIT read it (log 30). Only an error of its control update can abandon that RENDER (log 11), and none does where no control changed. -/
def Obligations.ReleaseMakesEnvelopeFall : Prop :=
  ReleaseFallsRule barKit (·.models.bar) .barRelease .barRender [0, 1, 9, 10, 11, 13]
      (fun m => (m.ad.target, m.ad.phase, m.ad.rate)) false (fun _ m => m.ad.releaseRate)
    ∧ ReleaseFallsRule clarKit (·.models.clar) .clarRelease .clarRender [0, 1, 6, 7, 8]
      (fun m => (m.env.target, m.env.phase, m.env.rate)) true (fun s m => fallRate s m.hdr)
    ∧ ReleaseFallsRule fluteKit (·.models.flute) .fluteRelease .fluteRender [0, 1, 6, 7, 8, 9, 10, 11]
      (fun m => (m.ad.target, m.ad.phase, m.ad.rate)) true (fun s m => fallRate s m.hdr)
    ∧ ReleaseFallsRule bowedKit (·.models.bowed) .bowedRelease .bowedRender [0, 1, 6, 7, 9, 10]
      (fun m => (m.ad.target, m.ad.phase, m.ad.rate)) false (fun _ m => m.ad.releaseRate)
    ∧ ReleaseFallsRule brassKit (·.models.brass) .brassRelease .brassRender [0, 1, 6, 7, 9]
      (fun m => (m.ad.target, m.ad.phase, m.ad.rate)) true (fun s m => fallRate s m.hdr)

/-- R310: one sample of BAR, in the order written: velocity estimate, bow drive by TRACKVEL, bow table, the four branches, the output.
TRACKVEL and INTEG are the values INIT read: R14, R271 and R400 say so of i-rate controls, R310 writes c[TRACKVEL] and c[INTEG], and the
model follows the former (log 30). Then R304, R306-R309: what a control update changes, each part where its control changed. -/
def Obligations.BarSample : Prop :=
  (∀ (s : State) (n : Nat) (m : Bar), s.models.bar[n]? = some m → Steady barKit [0, 1, 9, 10, 11, 13] m → s.iarg = 1#32 →
      let f := s.params.fmt
      let p := s.params.bar
      let fb := m.hdr.ctl.get 13
      let est := f.add (f.add (f.add (f.add (f.mul (m.hdr.iCtl.get 14) m.vEst) (f.mul fb m.k.k0.d.last)) (f.mul fb m.k.k1.d.last))
        (f.mul fb m.k.k2.d.last)) (f.mul fb m.k.k3.d.last)
      let track := !f.eq (m.hdr.iCtl.get 12) 0#64
      let vel := if track then f.add (f.mul m.bowVel p.velDecay) m.bowTarg else f.mul (m.ad.tick f).1 m.maxVel
      let x := f.div (f.mul (f.sub vel est) (m.bw.lookup f (f.sub vel est))) (f.lit 4 1)
      let branch := fun b : Branch =>
        let q := b.q.tick f (f.add (f.mul x b.gain) (f.mul fb b.d.last))
        (q.1, { b with q := q.2, d := (b.d.tick q.1).2 })
      let out := f.add (f.add (f.add (f.add 0#64 (branch m.k.k0).1) (branch m.k.k1).1) (branch m.k.k2).1) (branch m.k.k3).1
      exec (.barRender n) s =
        .next { s.after 0#32 with
                out := outWrite 0 (f.mul out p.outGain) s.out
                models := { s.models with
                  bar := s.models.bar.set n
                    { m with
                      hdr := { m.hdr with counter := m.hdr.counter - 1 }
                      k := ⟨(branch m.k.k0).2, (branch m.k.k1).2, (branch m.k.k2).2, (branch m.k.k3).2⟩
                      ad := if track then m.ad else (m.ad.tick f).2
                      bowVel := vel
                      bowTarg := if track then f.mul m.bowTarg p.targDecay else m.bowTarg
                      vEst := est } } })
    ∧ ∀ (s : State) (n : Nat) (m : Bar), s.models.bar[n]? = some m → Updates barKit s m →
      let f := s.params.fmt
      let p := s.params.bar
      let h := m.hdr
      let c := fun x : Fin 16 => h.ctl.get x
      let fr := noteFreq f (c 1) h.minF (f.lit 1568 1)
      let rad := fun ratio : Flt => f.sub f.one (f.div (f.mul (f.mul fr ratio) f.pi) s.sr)
      let r0 := f.lit 1 1
      let r1 := f.lit 2756 1000
      let r2 := f.lit 5404 1000
      let r3 := f.lit 8933 1000
      let settable := fun (b : Branch) (ratio : Flt) =>
        0 < b.d.cap ∧ f.isNaN (f.div (f.div s.sr fr) ratio) = false ∧ f.isFinite (f.mul fr ratio) = true
          ∧ f.isFinite (rad ratio) = true
      (h.dirty 1 → f.lt 0#64 s.sr = true ∧ settable m.k.k0 r0 ∧ settable m.k.k1 r1 ∧ settable m.k.k2 r2 ∧ settable m.k.k3 r3) →
      let tuned := fun (b b' : Branch) (ratio : Flt) (w : U32) =>
        b.d.setdel f (f.div (f.div s.sr fr) ratio) = .ok w b'.d
          ∧ b'.q = ⟨f.mul (f.mul (f.lit 2 1) (rad ratio))
                (f.cos s.params.libm (f.div (f.mul f.twoPi (f.mul fr ratio)) s.sr)),
              f.neg (f.mul (rad ratio) (rad ratio)), 0#64, f.lit (-1) 1,
              f.div (f.sub f.one (f.mul (rad ratio) (rad ratio))) (f.lit 2 1), 0#64, 0#64, 0#64, 0#64⟩
      let gain := fun (b : Branch) (ratio : Flt) =>
        if h.dirty 10 then f.abs (f.sin s.params.libm (f.mul (f.mul f.pi (c 10)) ratio)) else b.gain
      ∃ (m' : Bar) (w : U32), Updated barKit (·.models.bar) State.putBar .barRender [0, 1, 9, 10, 11, 13] s n m m' w
        ∧ (h.dirty 1 → ∃ w0 w1 w2 w3, w = noteClamp f (c 1) h.minF (f.lit 1568 1) ||| w0 ||| w1 ||| w2 ||| w3
          ∧ tuned m.k.k0 m'.k.k0 r0 w0 ∧ tuned m.k.k1 m'.k.k1 r1 w1 ∧ tuned m.k.k2 m'.k.k2 r2 w2 ∧ tuned m.k.k3 m'.k.k3 r3 w3)
        ∧ (¬ h.dirty 1 → w = 0#32 ∧ (m'.k.k0.d, m'.k.k0.q) = (m.k.k0.d, m.k.k0.q) ∧ (m'.k.k1.d, m'.k.k1.q) = (m.k.k1.d, m.k.k1.q)
          ∧ (m'.k.k2.d, m'.k.k2.q) = (m.k.k2.d, m.k.k2.q) ∧ (m'.k.k3.d, m'.k.k3.q) = (m.k.k3.d, m.k.k3.q))
        ∧ m'.k.k0.gain = gain m.k.k0 r0 ∧ m'.k.k1.gain = gain m.k.k1 r1 ∧ m'.k.k2.gain = gain m.k.k2 r2
        ∧ m'.k.k3.gain = gain m.k.k3 r3
        ∧ m'.bw = (if h.dirty 9 then ⟨f.sub p.slopeBase (f.mul p.slopeStep (c 9))⟩ else m.bw)
        ∧ m'.maxVel = (if h.dirty 0 then f.add p.velBase (f.mul p.velStep (f.mul (c 0) s.params.ampRscale)) else m.maxVel)
        ∧ m'.bowTarg = (if h.dirty 11 then f.add m.bowTarg (f.mul p.targStep (f.sub (c 11) m.lastTP)) else m.bowTarg)
        ∧ m'.lastTP = (if h.dirty 11 then c 11 else m.lastTP) ∧ m'.ad = m.ad ∧ m'.bowVel = m.bowVel ∧ m'.vEst = m.vEst

/-- R324: one sample of CLAR, in the order written: breath envelope, noise, vibrato, filtered reflection, reed table, bore. Then R322,
R323: what a control update changes; after the release an AMP change does not move the target. -/
def Obligations.ClarSample : Prop :=
  (∀ (s : State) (n : Nat) (m : Clar), s.models.clar[n]? = some m → Steady clarKit [0, 1, 6, 7, 8] m → 0 < m.vb.len →
      s.iarg = 1#32 →
      let f := s.params.fmt
      let p := s.params.clar
      let e := m.env.tick f
      let d := drawStep s
      let v := vibStep s m.vb d.2.2
      let b1 := f.add e.1 (f.mul (f.mul e.1 (m.hdr.ctl.get 8)) d.1)
      let b2 := f.add b1 (f.mul (f.mul b1 (m.hdr.ctl.get 7)) v.1)
      let z := m.oz.tick f m.dl.last
      let pd := f.sub (f.mul p.reflFactor z.1) b2
      let o := m.dl.tick f (f.add b2 (f.mul pd (m.rd.lookup f pd)))
      exec (.clarRender n) s =
        .next { s.after 0#32 with
                noiseIn := d.2.1, free := v.2.2
                out := outWrite 0 (f.mul o.1 p.outGain) s.out
                models := { s.models with
                  clar := s.models.clar.set n
                    { m with
                      hdr := { m.hdr with counter := m.hdr.counter - 1 }
                      env := e.2, ns := ⟨d.1⟩, vb := v.2.1, oz := z.2, dl := o.2 } } })
    ∧ ∀ (s : State) (n : Nat) (m : Clar), s.models.clar[n]? = some m → Updates clarKit s m →
      let f := s.params.fmt
      let p := s.params.clar
      let h := m.hdr
      let c := fun x : Fin 16 => h.ctl.get x
      let fmax := noteFmax s p.fmax
      let fr := noteFreq f (c 1) h.minF fmax
      let lag := f.sub (f.div (f.mul p.lagFactor s.sr) fr) p.lagOffset
      (h.dirty 1 → 0 < m.dl.cap ∧ f.isNaN lag = false) → (h.dirty 6 → f.lt 0#64 s.sr = true ∧ f.isFinite (c 6) = true) →
      ∃ (dl : Dll) (cache : Vector Flt 16) (w : U32),
        Updated clarKit (·.models.clar) State.putClar .clarRender [0, 1, 6, 7, 8] s n m
          { m with
            hdr := { h with counter := h.counter - 1, cache := cache }
            dl := dl
            env := if h.dirty 0 ∧ m.env.phase = .attack then
                { m.env with target := f.add p.breathBase (f.mul p.breathStep (f.mul (c 0) s.params.ampRscale)) }
              else m.env
            vb := if h.dirty 6 then m.vb.at s (c 6) else m.vb } w
          ∧ (h.dirty 1 → ∃ w1, w = noteClamp f (c 1) h.minF fmax ||| w1 ∧ m.dl.setdel f lag = .ok w1 dl)
          ∧ (¬ h.dirty 1 → w = 0#32 ∧ dl = m.dl)

/-- R334: one sample of FLUTE, in the order written: breath, end reflection without its bias, jet delay and jet table, bore. Then R332,
R333: what a control update changes. -/
def Obligations.FluteSample : Prop :=
  (∀ (s : State) (n : Nat) (m : Flute), s.models.flute[n]? = some m → Steady fluteKit [0, 1, 6, 7, 8, 9, 10, 11] m →
      0 < m.vb.len → s.iarg = 1#32 →
      let f := s.params.fmt
      let p := s.params.flute
      let e := m.ad.tick f
      let d := drawStep s
      let v := vibStep s m.vb d.2.2
      let b1 := f.mul m.maxP e.1
      let b2 := f.add b1 (f.mul b1 (f.add (f.mul (m.hdr.ctl.get 8) d.1) (f.mul (m.hdr.ctl.get 7) v.1)))
      let l := m.lp.tick f m.bore.last
      let t := m.dc.tick s.params l.1
      let j := m.jet.tick f (f.sub b2 (f.mul (m.hdr.ctl.get 11) t.1))
      let o := m.bore.tick f (f.add (m.jt.lookup f j.1) (f.mul (m.hdr.ctl.get 10) t.1))
      exec (.fluteRender n) s =
        .next { s.after 0#32 with
                noiseIn := d.2.1, free := v.2.2
                out := outWrite 0 (f.mul (f.mul p.outFactor o.1) p.outGain) s.out
                models := { s.models with
                  flute := s.models.flute.set n
                    { m with
                      hdr := { m.hdr with counter := m.hdr.counter - 1 }
                      ad := e.2, ns := ⟨d.1⟩, vb := v.2.1, lp := l.2, dc := t.2, jet := j.2, bore := o.2 } } })
    ∧ ∀ (s : State) (n : Nat) (m : Flute), s.models.flute[n]? = some m → Updates fluteKit s m →
      let f := s.params.fmt
      let p := s.params.flute
      let h := m.hdr
      let c := fun x : Fin 16 => h.ctl.get x
      let fmax := noteFmax s p.fmax
      let fr := noteFreq f (c 1) h.minF fmax
      let lag := f.sub (f.div (f.mul (f.lit 3 2) s.sr) fr) p.lagOffset
      (h.dirty 1 ∨ h.dirty 9 →
        0 < m.bore.cap ∧ 0 < m.jet.cap ∧ f.isNaN lag = false ∧ f.isNaN (f.mul lag (c 9)) = false) →
      (h.dirty 6 → f.lt 0#64 s.sr = true ∧ f.isFinite (c 6) = true) →
      ∃ (bore jet : Dll) (cache : Vector Flt 16) (w : U32),
        Updated fluteKit (·.models.flute) State.putFlute .fluteRender [0, 1, 6, 7, 8, 9, 10, 11] s n m
          { m with
            hdr := { h with counter := h.counter - 1, cache := cache }
            bore := bore
            jet := jet
            maxP := if h.dirty 0 then
                f.div (f.add p.pressBase (f.mul p.pressStep (f.mul (c 0) s.params.ampRscale))) p.pressDiv
              else m.maxP
            vb := if h.dirty 6 then m.vb.at s (c 6) else m.vb } w
          ∧ (h.dirty 1 ∨ h.dirty 9 → ∃ w1 w2, w = noteClamp f (c 1) h.minF fmax ||| w1 ||| w2
            ∧ m.bore.setdel f lag = .ok w1 bore ∧ m.jet.setdel f (f.mul lag (c 9)) = .ok w2 jet)
          ∧ (¬ (h.dirty 1 ∨ h.dirty 9) → w = 0#32 ∧ bore = m.bore ∧ jet = m.jet)

/-- R344: one sample of BOWED, in the order written; where VIBAMT is not 0 the vibrato ticks and the nut's lag follows it, with the
warning of a clamped lag; a NaN lag leaves the nut and STATUS as they are (R361, R369; log 11). The unary minus is the IEEE negate by
inference (log 18). Then R342, R343: what a control update changes. -/
def Obligations.BowedSample : Prop :=
  (∀ (s : State) (n : Nat) (m : Bowed), s.models.bowed[n]? = some m → Steady bowedKit [0, 1, 6, 7, 9, 10] m → s.iarg = 1#32 →
      let f := s.params.fmt
      let p := s.params.bowed
      let e := m.ad.tick f
      let l := m.lp.tick f m.bridge.last
      let br := f.neg l.1
      let nr := f.neg m.nut.last
      let dv := f.sub (f.mul m.maxVel e.1) (f.add br nr)
      let nv := f.mul dv (m.bw.lookup f dv)
      let nut := (m.nut.tick f (f.add br nv)).2
      let bridge := (m.bridge.tick f (f.add nr nv)).2
      let o := m.body.tick f bridge.last
      let after := fun (nut' : Dll) (vb : Vib) =>
        { s.models with
          bowed := s.models.bowed.set n
            { m with
              hdr := { m.hdr with counter := m.hdr.counter - 1 }
              ad := e.2, lp := l.2, nut := nut', bridge := bridge, vb := vb, body := o.2 } }
      let v := vibStep s m.vb s.free
      let lag := f.add (f.mul m.base (f.sub f.one (m.hdr.ctl.get 10))) (f.mul (f.mul m.base (m.hdr.ctl.get 7)) v.1)
      (f.eq (m.hdr.ctl.get 7) 0#64 = true →
          exec (.bowedRender n) s =
            .next { s.after 0#32 with out := outWrite 0 (f.mul o.1 p.outGain) s.out, models := after nut m.vb })
        ∧ (f.eq (m.hdr.ctl.get 7) 0#64 = false → 0 < m.vb.len → 0 < m.nut.cap → f.isNaN lag = false →
          ∃ w nut', nut.setdel f lag = .ok w nut'
            ∧ exec (.bowedRender n) s =
              .next { s.after w with
                      free := v.2.2, out := outWrite 0 (f.mul o.1 p.outGain) s.out, models := after nut' v.2.1 })
        ∧ (f.eq (m.hdr.ctl.get 7) 0#64 = false → 0 < m.vb.len → f.isNaN lag = true →
          exec (.bowedRender n) s =
            .next { s.after 0#32 with
                    free := v.2.2, out := outWrite 0 (f.mul o.1 p.outGain) s.out, models := after nut v.2.1 }))
    ∧ ∀ (s : State) (n : Nat) (m : Bowed), s.models.bowed[n]? = some m → Updates bowedKit s m →
      let f := s.params.fmt
      let p := s.params.bowed
      let h := m.hdr
      let c := fun x : Fin 16 => h.ctl.get x
      let fmax := noteFmax s p.fmax
      let fr := noteFreq f (c 1) h.minF fmax
      let base := f.sub (f.div s.sr fr) p.comp
      let nutLag := f.mul base (f.sub f.one (c 10))
      (h.dirty 1 ∨ h.dirty 10 →
        0 < m.nut.cap ∧ 0 < m.bridge.cap ∧ f.isNaN (f.mul base (c 10)) = false ∧ f.isNaN nutLag = false) →
      (h.dirty 6 → f.lt 0#64 s.sr = true ∧ f.isFinite (c 6) = true) →
      ∃ (nut bridge : Dll) (cache : Vector Flt 16) (w : U32),
        Updated bowedKit (·.models.bowed) State.putBowed .bowedRender [0, 1, 6, 7, 9, 10] s n m
          { m with
            hdr := { h with counter := h.counter - 1, cache := cache }
            nut := nut
            bridge := bridge
            base := if h.dirty 1 ∨ h.dirty 10 then base else m.base
            bw := if h.dirty 9 then ⟨f.sub p.slopeBase (f.mul p.slopeStep (c 9))⟩ else m.bw
            maxVel := if h.dirty 0 then f.add p.velBase (f.mul p.velStep (f.mul (c 0) s.params.ampRscale)) else m.maxVel
            vb := if h.dirty 6 then m.vb.at s (c 6) else m.vb } w
          ∧ (h.dirty 1 ∨ h.dirty 10 → ∃ w1 w2, w = noteClamp f (c 1) h.minF fmax ||| w1 ||| w2
            ∧ m.bridge.setdel f (f.mul base (c 10)) = .ok w1 bridge ∧ m.nut.setdel f nutLag = .ok w2 nut)
          ∧ (¬ (h.dirty 1 ∨ h.dirty 10) → w = 0#32 ∧ nut = m.nut ∧ bridge = m.bridge)

/-- R351: one sample of BRASS, in the order written: breath and vibrato, mouth pressure, bore reflection, squared and clamped lip area,
DC blocker, bore. Then R350: what a control update changes; a change of LIPTENSION alone does not move the bore. The unary minus of the
lip's pole is the IEEE negate by inference (log 18). -/
def Obligations.BrassSample : Prop :=
  (∀ (s : State) (n : Nat) (m : Brass), s.models.brass[n]? = some m → Steady brassKit [0, 1, 6, 7, 9] m → 0 < m.vb.len →
      s.iarg = 1#32 →
      let f := s.params.fmt
      let p := s.params.brass
      let e := m.ad.tick f
      let v := vibStep s m.vb s.free
      let b := f.add (f.mul m.maxP e.1) (f.mul (m.hdr.ctl.get 7) v.1)
      let mouth := f.mul p.mouthFactor b
      let bp := f.mul p.boreFactor m.bore.last
      let q := m.lip.tick f (f.sub mouth bp)
      let area := if f.lt f.one (f.mul q.1 q.1) then f.one else f.mul q.1 q.1
      let t := m.dc.tick s.params (f.add (f.mul area mouth) (f.mul (f.sub f.one area) bp))
      let o := m.bore.tick f t.1
      exec (.brassRender n) s =
        .next { s.after 0#32 with
                free := v.2.2
                out := outWrite 0 (f.mul o.1 p.outGain) s.out
                models := { s.models with
                  brass := s.models.brass.set n
                    { m with
                      hdr := { m.hdr with counter := m.hdr.counter - 1 }
                      ad := e.2, vb := v.2.1, lip := q.2, dc := t.2, bore := o.2 } } })
    ∧ ∀ (s : State) (n : Nat) (m : Brass), s.models.brass[n]? = some m → Updates brassKit s m →
      let f := s.params.fmt
      let p := s.params.brass
      let h := m.hdr
      let c := fun x : Fin 16 => h.ctl.get x
      let fmax := noteFmax s p.fmax
      let fr := noteFreq f (c 1) h.minF fmax
      let lag := f.add (f.mul (f.div s.sr fr) p.lagFactor) p.lagOffset
      let lipHz := f.mul fr (f.pow s.params.libm p.lipBase (f.sub (f.mul p.lipScale (c 9)) p.lipShift))
      (h.dirty 1 → 0 < m.bore.cap ∧ f.isNaN lag = false) →
      (h.dirty 1 ∨ h.dirty 9 → f.lt 0#64 s.sr = true ∧ f.isFinite lipHz = true ∧ f.isFinite p.lipR = true) →
      (h.dirty 6 → f.lt 0#64 s.sr = true ∧ f.isFinite (c 6) = true) →
      ∃ (bore : Dla) (cache : Vector Flt 16) (w w1 : U32),
        Updated brassKit (·.models.brass) State.putBrass .brassRender [0, 1, 6, 7, 9] s n m
          { m with
            hdr := { h with counter := h.counter - 1, cache := cache }
            bore := bore
            lip := if h.dirty 1 ∨ h.dirty 9 then
                { m.lip with
                  p0 := f.mul (f.mul (f.lit 2 1) p.lipR) (f.cos s.params.libm (f.div (f.mul f.twoPi lipHz) s.sr))
                  p1 := f.neg (f.mul p.lipR p.lipR) }
              else m.lip
            maxP := if h.dirty 0 then f.mul (c 0) s.params.ampRscale else m.maxP
            vb := if h.dirty 6 then m.vb.at s (c 6) else m.vb } w
          ∧ w = (if h.dirty 1 ∨ h.dirty 9 then noteClamp f (c 1) h.minF fmax else 0#32) ||| w1
          ∧ (h.dirty 1 → m.bore.setdel f lag = .ok w1 bore) ∧ (¬ h.dirty 1 → w1 = 0#32 ∧ bore = m.bore)
end

