-- ==== Sys2Proof/Laws/State.lean ====
section
/-! SUPPORT. One lemma per field per named update of State, each true by rfl: later proofs unfold no record update. -/

namespace Sys2Proof.Machine

variable (s : State)


/-! start -/

@[simp] theorem State.start_params : (s.start).params = s.params := rfl
@[simp] theorem State.start_sr : (s.start).sr = s.sr := rfl
@[simp] theorem State.start_kr : (s.start).kr = s.kr := rfl
@[simp] theorem State.start_cmd : (s.start).cmd = s.cmd := rfl
@[simp] theorem State.start_a0 : (s.start).a0 = s.a0 := rfl
@[simp] theorem State.start_a1 : (s.start).a1 = s.a1 := rfl
@[simp] theorem State.start_a2 : (s.start).a2 = s.a2 := rfl
@[simp] theorem State.start_a3 : (s.start).a3 = s.a3 := rfl
@[simp] theorem State.start_iarg : (s.start).iarg = s.iarg := rfl
@[simp] theorem State.start_y : (s.start).y = s.y := rfl
@[simp] theorem State.start_status : (s.start).status = s.status &&& ~~~cmdFail := rfl
@[simp] theorem State.start_tables : (s.start).tables = s.tables := rfl
@[simp] theorem State.start_out : (s.start).out = s.out := rfl
@[simp] theorem State.start_noiseIn : (s.start).noiseIn = s.noiseIn := rfl
@[simp] theorem State.start_free : (s.start).free = s.free := rfl
@[simp] theorem State.start_pending : (s.start).pending = s.pending := rfl
@[simp] theorem State.start_units : (s.start).units = s.units := rfl
@[simp] theorem State.start_models : (s.start).models = s.models := rfl

/-! warn -/

@[simp] theorem State.warn_params (w : U32) : (s.warn w).params = s.params := rfl
@[simp] theorem State.warn_sr (w : U32) : (s.warn w).sr = s.sr := rfl
@[simp] theorem State.warn_kr (w : U32) : (s.warn w).kr = s.kr := rfl
@[simp] theorem State.warn_cmd (w : U32) : (s.warn w).cmd = s.cmd := rfl
@[simp] theorem State.warn_a0 (w : U32) : (s.warn w).a0 = s.a0 := rfl
@[simp] theorem State.warn_a1 (w : U32) : (s.warn w).a1 = s.a1 := rfl
@[simp] theorem State.warn_a2 (w : U32) : (s.warn w).a2 = s.a2 := rfl
@[simp] theorem State.warn_a3 (w : U32) : (s.warn w).a3 = s.a3 := rfl
@[simp] theorem State.warn_iarg (w : U32) : (s.warn w).iarg = s.iarg := rfl
@[simp] theorem State.warn_y (w : U32) : (s.warn w).y = s.y := rfl
@[simp] theorem State.warn_status (w : U32) : (s.warn w).status = s.status ||| w := rfl
@[simp] theorem State.warn_tables (w : U32) : (s.warn w).tables = s.tables := rfl
@[simp] theorem State.warn_out (w : U32) : (s.warn w).out = s.out := rfl
@[simp] theorem State.warn_noiseIn (w : U32) : (s.warn w).noiseIn = s.noiseIn := rfl
@[simp] theorem State.warn_free (w : U32) : (s.warn w).free = s.free := rfl
@[simp] theorem State.warn_pending (w : U32) : (s.warn w).pending = s.pending := rfl
@[simp] theorem State.warn_units (w : U32) : (s.warn w).units = s.units := rfl
@[simp] theorem State.warn_models (w : U32) : (s.warn w).models = s.models := rfl

/-! abandon -/

@[simp] theorem State.abandon_params (w e : U32) : (s.abandon w e).params = s.params := rfl
@[simp] theorem State.abandon_sr (w e : U32) : (s.abandon w e).sr = s.sr := rfl
@[simp] theorem State.abandon_kr (w e : U32) : (s.abandon w e).kr = s.kr := rfl
@[simp] theorem State.abandon_cmd (w e : U32) : (s.abandon w e).cmd = s.cmd := rfl
@[simp] theorem State.abandon_a0 (w e : U32) : (s.abandon w e).a0 = s.a0 := rfl
@[simp] theorem State.abandon_a1 (w e : U32) : (s.abandon w e).a1 = s.a1 := rfl
@[simp] theorem State.abandon_a2 (w e : U32) : (s.abandon w e).a2 = s.a2 := rfl
@[simp] theorem State.abandon_a3 (w e : U32) : (s.abandon w e).a3 = s.a3 := rfl
@[simp] theorem State.abandon_iarg (w e : U32) : (s.abandon w e).iarg = s.iarg := rfl
@[simp] theorem State.abandon_y (w e : U32) : (s.abandon w e).y = s.y := rfl
@[simp] theorem State.abandon_status (w e : U32) : (s.abandon w e).status = (s.status &&& ~~~cmdFail) ||| (w ||| e ||| cmdFail) := rfl
@[simp] theorem State.abandon_tables (w e : U32) : (s.abandon w e).tables = s.tables := rfl
@[simp] theorem State.abandon_out (w e : U32) : (s.abandon w e).out = s.out := rfl
@[simp] theorem State.abandon_noiseIn (w e : U32) : (s.abandon w e).noiseIn = s.noiseIn := rfl
@[simp] theorem State.abandon_free (w e : U32) : (s.abandon w e).free = s.free := rfl
@[simp] theorem State.abandon_pending (w e : U32) : (s.abandon w e).pending = s.pending := rfl
@[simp] theorem State.abandon_units (w e : U32) : (s.abandon w e).units = s.units := rfl
@[simp] theorem State.abandon_models (w e : U32) : (s.abandon w e).models = s.models := rfl

/-! illegal -/

@[simp] theorem State.illegal_params : (s.illegal).params = s.params := rfl
@[simp] theorem State.illegal_sr : (s.illegal).sr = s.sr := rfl
@[simp] theorem State.illegal_kr : (s.illegal).kr = s.kr := rfl
@[simp] theorem State.illegal_cmd : (s.illegal).cmd = s.cmd := rfl
@[simp] theorem State.illegal_a0 : (s.illegal).a0 = s.a0 := rfl
@[simp] theorem State.illegal_a1 : (s.illegal).a1 = s.a1 := rfl
@[simp] theorem State.illegal_a2 : (s.illegal).a2 = s.a2 := rfl
@[simp] theorem State.illegal_a3 : (s.illegal).a3 = s.a3 := rfl
@[simp] theorem State.illegal_iarg : (s.illegal).iarg = s.iarg := rfl
@[simp] theorem State.illegal_y : (s.illegal).y = s.y := rfl
@[simp] theorem State.illegal_status : (s.illegal).status = (s.status &&& ~~~cmdFail) ||| (0 ||| errIllegal ||| cmdFail) := rfl
@[simp] theorem State.illegal_tables : (s.illegal).tables = s.tables := rfl
@[simp] theorem State.illegal_out : (s.illegal).out = s.out := rfl
@[simp] theorem State.illegal_noiseIn : (s.illegal).noiseIn = s.noiseIn := rfl
@[simp] theorem State.illegal_free : (s.illegal).free = s.free := rfl
@[simp] theorem State.illegal_pending : (s.illegal).pending = s.pending := rfl
@[simp] theorem State.illegal_units : (s.illegal).units = s.units := rfl
@[simp] theorem State.illegal_models : (s.illegal).models = s.models := rfl

/-! setY -/

@[simp] theorem State.setY_params (v : Flt) : (s.setY v).params = s.params := rfl
@[simp] theorem State.setY_sr (v : Flt) : (s.setY v).sr = s.sr := rfl
@[simp] theorem State.setY_kr (v : Flt) : (s.setY v).kr = s.kr := rfl
@[simp] theorem State.setY_cmd (v : Flt) : (s.setY v).cmd = s.cmd := rfl
@[simp] theorem State.setY_a0 (v : Flt) : (s.setY v).a0 = s.a0 := rfl
@[simp] theorem State.setY_a1 (v : Flt) : (s.setY v).a1 = s.a1 := rfl
@[simp] theorem State.setY_a2 (v : Flt) : (s.setY v).a2 = s.a2 := rfl
@[simp] theorem State.setY_a3 (v : Flt) : (s.setY v).a3 = s.a3 := rfl
@[simp] theorem State.setY_iarg (v : Flt) : (s.setY v).iarg = s.iarg := rfl
@[simp] theorem State.setY_y (v : Flt) : (s.setY v).y = v := rfl
@[simp] theorem State.setY_status (v : Flt) : (s.setY v).status = s.status := rfl
@[simp] theorem State.setY_tables (v : Flt) : (s.setY v).tables = s.tables := rfl
@[simp] theorem State.setY_out (v : Flt) : (s.setY v).out = s.out := rfl
@[simp] theorem State.setY_noiseIn (v : Flt) : (s.setY v).noiseIn = s.noiseIn := rfl
@[simp] theorem State.setY_free (v : Flt) : (s.setY v).free = s.free := rfl
@[simp] theorem State.setY_pending (v : Flt) : (s.setY v).pending = s.pending := rfl
@[simp] theorem State.setY_units (v : Flt) : (s.setY v).units = s.units := rfl
@[simp] theorem State.setY_models (v : Flt) : (s.setY v).models = s.models := rfl

/-! takeFx -/

@[simp] theorem State.takeFx_params (fx : Fx) : (s.takeFx fx).params = s.params := rfl
@[simp] theorem State.takeFx_sr (fx : Fx) : (s.takeFx fx).sr = s.sr := rfl
@[simp] theorem State.takeFx_kr (fx : Fx) : (s.takeFx fx).kr = s.kr := rfl
@[simp] theorem State.takeFx_cmd (fx : Fx) : (s.takeFx fx).cmd = s.cmd := rfl
@[simp] theorem State.takeFx_a0 (fx : Fx) : (s.takeFx fx).a0 = s.a0 := rfl
@[simp] theorem State.takeFx_a1 (fx : Fx) : (s.takeFx fx).a1 = s.a1 := rfl
@[simp] theorem State.takeFx_a2 (fx : Fx) : (s.takeFx fx).a2 = s.a2 := rfl
@[simp] theorem State.takeFx_a3 (fx : Fx) : (s.takeFx fx).a3 = s.a3 := rfl
@[simp] theorem State.takeFx_iarg (fx : Fx) : (s.takeFx fx).iarg = s.iarg := rfl
@[simp] theorem State.takeFx_y (fx : Fx) : (s.takeFx fx).y = s.y := rfl
@[simp] theorem State.takeFx_status (fx : Fx) : (s.takeFx fx).status = s.status := rfl
@[simp] theorem State.takeFx_tables (fx : Fx) : (s.takeFx fx).tables = s.tables := rfl
@[simp] theorem State.takeFx_out (fx : Fx) : (s.takeFx fx).out = s.out := rfl
@[simp] theorem State.takeFx_noiseIn (fx : Fx) : (s.takeFx fx).noiseIn = fx.noise := rfl
@[simp] theorem State.takeFx_free (fx : Fx) : (s.takeFx fx).free = fx.free := rfl
@[simp] theorem State.takeFx_pending (fx : Fx) : (s.takeFx fx).pending = s.pending := rfl
@[simp] theorem State.takeFx_units (fx : Fx) : (s.takeFx fx).units = s.units := rfl
@[simp] theorem State.takeFx_models (fx : Fx) : (s.takeFx fx).models = s.models := rfl

/-! putDln -/

@[simp] theorem State.putDln_params (b : List Dln) : (s.putDln b).params = s.params := rfl
@[simp] theorem State.putDln_sr (b : List Dln) : (s.putDln b).sr = s.sr := rfl
@[simp] theorem State.putDln_kr (b : List Dln) : (s.putDln b).kr = s.kr := rfl
@[simp] theorem State.putDln_cmd (b : List Dln) : (s.putDln b).cmd = s.cmd := rfl
@[simp] theorem State.putDln_a0 (b : List Dln) : (s.putDln b).a0 = s.a0 := rfl
@[simp] theorem State.putDln_a1 (b : List Dln) : (s.putDln b).a1 = s.a1 := rfl
@[simp] theorem State.putDln_a2 (b : List Dln) : (s.putDln b).a2 = s.a2 := rfl
@[simp] theorem State.putDln_a3 (b : List Dln) : (s.putDln b).a3 = s.a3 := rfl
@[simp] theorem State.putDln_iarg (b : List Dln) : (s.putDln b).iarg = s.iarg := rfl
@[simp] theorem State.putDln_y (b : List Dln) : (s.putDln b).y = s.y := rfl
@[simp] theorem State.putDln_status (b : List Dln) : (s.putDln b).status = s.status := rfl
@[simp] theorem State.putDln_tables (b : List Dln) : (s.putDln b).tables = s.tables := rfl
@[simp] theorem State.putDln_out (b : List Dln) : (s.putDln b).out = s.out := rfl
@[simp] theorem State.putDln_noiseIn (b : List Dln) : (s.putDln b).noiseIn = s.noiseIn := rfl
@[simp] theorem State.putDln_free (b : List Dln) : (s.putDln b).free = s.free := rfl
@[simp] theorem State.putDln_pending (b : List Dln) : (s.putDln b).pending = s.pending := rfl
@[simp] theorem State.putDln_units_dln (b : List Dln) : (s.putDln b).units.dln = b := rfl
@[simp] theorem State.putDln_units_dla (b : List Dln) : (s.putDln b).units.dla = s.units.dla := rfl
@[simp] theorem State.putDln_units_dll (b : List Dln) : (s.putDln b).units.dll = s.units.dll := rfl
@[simp] theorem State.putDln_units_biq (b : List Dln) : (s.putDln b).units.biq = s.units.biq := rfl
@[simp] theorem State.putDln_units_opole (b : List Dln) : (s.putDln b).units.opole = s.units.opole := rfl
@[simp] theorem State.putDln_units_ozero (b : List Dln) : (s.putDln b).units.ozero = s.units.ozero := rfl
@[simp] theorem State.putDln_units_dcb (b : List Dln) : (s.putDln b).units.dcb = s.units.dcb := rfl
@[simp] theorem State.putDln_units_adsr (b : List Dln) : (s.putDln b).units.adsr = s.units.adsr := rfl
@[simp] theorem State.putDln_units_env (b : List Dln) : (s.putDln b).units.env = s.units.env := rfl
@[simp] theorem State.putDln_units_bow (b : List Dln) : (s.putDln b).units.bow = s.units.bow := rfl
@[simp] theorem State.putDln_units_reed (b : List Dln) : (s.putDln b).units.reed = s.units.reed := rfl
@[simp] theorem State.putDln_units_jet (b : List Dln) : (s.putDln b).units.jet = s.units.jet := rfl
@[simp] theorem State.putDln_units_noise (b : List Dln) : (s.putDln b).units.noise = s.units.noise := rfl
@[simp] theorem State.putDln_units_vib (b : List Dln) : (s.putDln b).units.vib = s.units.vib := rfl
@[simp] theorem State.putDln_models (b : List Dln) : (s.putDln b).models = s.models := rfl

/-! putDla -/

@[simp] theorem State.putDla_params (b : List Dla) : (s.putDla b).params = s.params := rfl
@[simp] theorem State.putDla_sr (b : List Dla) : (s.putDla b).sr = s.sr := rfl
@[simp] theorem State.putDla_kr (b : List Dla) : (s.putDla b).kr = s.kr := rfl
@[simp] theorem State.putDla_cmd (b : List Dla) : (s.putDla b).cmd = s.cmd := rfl
@[simp] theorem State.putDla_a0 (b : List Dla) : (s.putDla b).a0 = s.a0 := rfl
@[simp] theorem State.putDla_a1 (b : List Dla) : (s.putDla b).a1 = s.a1 := rfl
@[simp] theorem State.putDla_a2 (b : List Dla) : (s.putDla b).a2 = s.a2 := rfl
@[simp] theorem State.putDla_a3 (b : List Dla) : (s.putDla b).a3 = s.a3 := rfl
@[simp] theorem State.putDla_iarg (b : List Dla) : (s.putDla b).iarg = s.iarg := rfl
@[simp] theorem State.putDla_y (b : List Dla) : (s.putDla b).y = s.y := rfl
@[simp] theorem State.putDla_status (b : List Dla) : (s.putDla b).status = s.status := rfl
@[simp] theorem State.putDla_tables (b : List Dla) : (s.putDla b).tables = s.tables := rfl
@[simp] theorem State.putDla_out (b : List Dla) : (s.putDla b).out = s.out := rfl
@[simp] theorem State.putDla_noiseIn (b : List Dla) : (s.putDla b).noiseIn = s.noiseIn := rfl
@[simp] theorem State.putDla_free (b : List Dla) : (s.putDla b).free = s.free := rfl
@[simp] theorem State.putDla_pending (b : List Dla) : (s.putDla b).pending = s.pending := rfl
@[simp] theorem State.putDla_units_dln (b : List Dla) : (s.putDla b).units.dln = s.units.dln := rfl
@[simp] theorem State.putDla_units_dla (b : List Dla) : (s.putDla b).units.dla = b := rfl
@[simp] theorem State.putDla_units_dll (b : List Dla) : (s.putDla b).units.dll = s.units.dll := rfl
@[simp] theorem State.putDla_units_biq (b : List Dla) : (s.putDla b).units.biq = s.units.biq := rfl
@[simp] theorem State.putDla_units_opole (b : List Dla) : (s.putDla b).units.opole = s.units.opole := rfl
@[simp] theorem State.putDla_units_ozero (b : List Dla) : (s.putDla b).units.ozero = s.units.ozero := rfl
@[simp] theorem State.putDla_units_dcb (b : List Dla) : (s.putDla b).units.dcb = s.units.dcb := rfl
@[simp] theorem State.putDla_units_adsr (b : List Dla) : (s.putDla b).units.adsr = s.units.adsr := rfl
@[simp] theorem State.putDla_units_env (b : List Dla) : (s.putDla b).units.env = s.units.env := rfl
@[simp] theorem State.putDla_units_bow (b : List Dla) : (s.putDla b).units.bow = s.units.bow := rfl
@[simp] theorem State.putDla_units_reed (b : List Dla) : (s.putDla b).units.reed = s.units.reed := rfl
@[simp] theorem State.putDla_units_jet (b : List Dla) : (s.putDla b).units.jet = s.units.jet := rfl
@[simp] theorem State.putDla_units_noise (b : List Dla) : (s.putDla b).units.noise = s.units.noise := rfl
@[simp] theorem State.putDla_units_vib (b : List Dla) : (s.putDla b).units.vib = s.units.vib := rfl
@[simp] theorem State.putDla_models (b : List Dla) : (s.putDla b).models = s.models := rfl

/-! putDll -/

@[simp] theorem State.putDll_params (b : List Dll) : (s.putDll b).params = s.params := rfl
@[simp] theorem State.putDll_sr (b : List Dll) : (s.putDll b).sr = s.sr := rfl
@[simp] theorem State.putDll_kr (b : List Dll) : (s.putDll b).kr = s.kr := rfl
@[simp] theorem State.putDll_cmd (b : List Dll) : (s.putDll b).cmd = s.cmd := rfl
@[simp] theorem State.putDll_a0 (b : List Dll) : (s.putDll b).a0 = s.a0 := rfl
@[simp] theorem State.putDll_a1 (b : List Dll) : (s.putDll b).a1 = s.a1 := rfl
@[simp] theorem State.putDll_a2 (b : List Dll) : (s.putDll b).a2 = s.a2 := rfl
@[simp] theorem State.putDll_a3 (b : List Dll) : (s.putDll b).a3 = s.a3 := rfl
@[simp] theorem State.putDll_iarg (b : List Dll) : (s.putDll b).iarg = s.iarg := rfl
@[simp] theorem State.putDll_y (b : List Dll) : (s.putDll b).y = s.y := rfl
@[simp] theorem State.putDll_status (b : List Dll) : (s.putDll b).status = s.status := rfl
@[simp] theorem State.putDll_tables (b : List Dll) : (s.putDll b).tables = s.tables := rfl
@[simp] theorem State.putDll_out (b : List Dll) : (s.putDll b).out = s.out := rfl
@[simp] theorem State.putDll_noiseIn (b : List Dll) : (s.putDll b).noiseIn = s.noiseIn := rfl
@[simp] theorem State.putDll_free (b : List Dll) : (s.putDll b).free = s.free := rfl
@[simp] theorem State.putDll_pending (b : List Dll) : (s.putDll b).pending = s.pending := rfl
@[simp] theorem State.putDll_units_dln (b : List Dll) : (s.putDll b).units.dln = s.units.dln := rfl
@[simp] theorem State.putDll_units_dla (b : List Dll) : (s.putDll b).units.dla = s.units.dla := rfl
@[simp] theorem State.putDll_units_dll (b : List Dll) : (s.putDll b).units.dll = b := rfl
@[simp] theorem State.putDll_units_biq (b : List Dll) : (s.putDll b).units.biq = s.units.biq := rfl
@[simp] theorem State.putDll_units_opole (b : List Dll) : (s.putDll b).units.opole = s.units.opole := rfl
@[simp] theorem State.putDll_units_ozero (b : List Dll) : (s.putDll b).units.ozero = s.units.ozero := rfl
@[simp] theorem State.putDll_units_dcb (b : List Dll) : (s.putDll b).units.dcb = s.units.dcb := rfl
@[simp] theorem State.putDll_units_adsr (b : List Dll) : (s.putDll b).units.adsr = s.units.adsr := rfl
@[simp] theorem State.putDll_units_env (b : List Dll) : (s.putDll b).units.env = s.units.env := rfl
@[simp] theorem State.putDll_units_bow (b : List Dll) : (s.putDll b).units.bow = s.units.bow := rfl
@[simp] theorem State.putDll_units_reed (b : List Dll) : (s.putDll b).units.reed = s.units.reed := rfl
@[simp] theorem State.putDll_units_jet (b : List Dll) : (s.putDll b).units.jet = s.units.jet := rfl
@[simp] theorem State.putDll_units_noise (b : List Dll) : (s.putDll b).units.noise = s.units.noise := rfl
@[simp] theorem State.putDll_units_vib (b : List Dll) : (s.putDll b).units.vib = s.units.vib := rfl
@[simp] theorem State.putDll_models (b : List Dll) : (s.putDll b).models = s.models := rfl

/-! putBiq -/

@[simp] theorem State.putBiq_params (b : List Biq) : (s.putBiq b).params = s.params := rfl
@[simp] theorem State.putBiq_sr (b : List Biq) : (s.putBiq b).sr = s.sr := rfl
@[simp] theorem State.putBiq_kr (b : List Biq) : (s.putBiq b).kr = s.kr := rfl
@[simp] theorem State.putBiq_cmd (b : List Biq) : (s.putBiq b).cmd = s.cmd := rfl
@[simp] theorem State.putBiq_a0 (b : List Biq) : (s.putBiq b).a0 = s.a0 := rfl
@[simp] theorem State.putBiq_a1 (b : List Biq) : (s.putBiq b).a1 = s.a1 := rfl
@[simp] theorem State.putBiq_a2 (b : List Biq) : (s.putBiq b).a2 = s.a2 := rfl
@[simp] theorem State.putBiq_a3 (b : List Biq) : (s.putBiq b).a3 = s.a3 := rfl
@[simp] theorem State.putBiq_iarg (b : List Biq) : (s.putBiq b).iarg = s.iarg := rfl
@[simp] theorem State.putBiq_y (b : List Biq) : (s.putBiq b).y = s.y := rfl
@[simp] theorem State.putBiq_status (b : List Biq) : (s.putBiq b).status = s.status := rfl
@[simp] theorem State.putBiq_tables (b : List Biq) : (s.putBiq b).tables = s.tables := rfl
@[simp] theorem State.putBiq_out (b : List Biq) : (s.putBiq b).out = s.out := rfl
@[simp] theorem State.putBiq_noiseIn (b : List Biq) : (s.putBiq b).noiseIn = s.noiseIn := rfl
@[simp] theorem State.putBiq_free (b : List Biq) : (s.putBiq b).free = s.free := rfl
@[simp] theorem State.putBiq_pending (b : List Biq) : (s.putBiq b).pending = s.pending := rfl
@[simp] theorem State.putBiq_units_dln (b : List Biq) : (s.putBiq b).units.dln = s.units.dln := rfl
@[simp] theorem State.putBiq_units_dla (b : List Biq) : (s.putBiq b).units.dla = s.units.dla := rfl
@[simp] theorem State.putBiq_units_dll (b : List Biq) : (s.putBiq b).units.dll = s.units.dll := rfl
@[simp] theorem State.putBiq_units_biq (b : List Biq) : (s.putBiq b).units.biq = b := rfl
@[simp] theorem State.putBiq_units_opole (b : List Biq) : (s.putBiq b).units.opole = s.units.opole := rfl
@[simp] theorem State.putBiq_units_ozero (b : List Biq) : (s.putBiq b).units.ozero = s.units.ozero := rfl
@[simp] theorem State.putBiq_units_dcb (b : List Biq) : (s.putBiq b).units.dcb = s.units.dcb := rfl
@[simp] theorem State.putBiq_units_adsr (b : List Biq) : (s.putBiq b).units.adsr = s.units.adsr := rfl
@[simp] theorem State.putBiq_units_env (b : List Biq) : (s.putBiq b).units.env = s.units.env := rfl
@[simp] theorem State.putBiq_units_bow (b : List Biq) : (s.putBiq b).units.bow = s.units.bow := rfl
@[simp] theorem State.putBiq_units_reed (b : List Biq) : (s.putBiq b).units.reed = s.units.reed := rfl
@[simp] theorem State.putBiq_units_jet (b : List Biq) : (s.putBiq b).units.jet = s.units.jet := rfl
@[simp] theorem State.putBiq_units_noise (b : List Biq) : (s.putBiq b).units.noise = s.units.noise := rfl
@[simp] theorem State.putBiq_units_vib (b : List Biq) : (s.putBiq b).units.vib = s.units.vib := rfl
@[simp] theorem State.putBiq_models (b : List Biq) : (s.putBiq b).models = s.models := rfl

/-! putOpole -/

@[simp] theorem State.putOpole_params (b : List Opole) : (s.putOpole b).params = s.params := rfl
@[simp] theorem State.putOpole_sr (b : List Opole) : (s.putOpole b).sr = s.sr := rfl
@[simp] theorem State.putOpole_kr (b : List Opole) : (s.putOpole b).kr = s.kr := rfl
@[simp] theorem State.putOpole_cmd (b : List Opole) : (s.putOpole b).cmd = s.cmd := rfl
@[simp] theorem State.putOpole_a0 (b : List Opole) : (s.putOpole b).a0 = s.a0 := rfl
@[simp] theorem State.putOpole_a1 (b : List Opole) : (s.putOpole b).a1 = s.a1 := rfl
@[simp] theorem State.putOpole_a2 (b : List Opole) : (s.putOpole b).a2 = s.a2 := rfl
@[simp] theorem State.putOpole_a3 (b : List Opole) : (s.putOpole b).a3 = s.a3 := rfl
@[simp] theorem State.putOpole_iarg (b : List Opole) : (s.putOpole b).iarg = s.iarg := rfl
@[simp] theorem State.putOpole_y (b : List Opole) : (s.putOpole b).y = s.y := rfl
@[simp] theorem State.putOpole_status (b : List Opole) : (s.putOpole b).status = s.status := rfl
@[simp] theorem State.putOpole_tables (b : List Opole) : (s.putOpole b).tables = s.tables := rfl
@[simp] theorem State.putOpole_out (b : List Opole) : (s.putOpole b).out = s.out := rfl
@[simp] theorem State.putOpole_noiseIn (b : List Opole) : (s.putOpole b).noiseIn = s.noiseIn := rfl
@[simp] theorem State.putOpole_free (b : List Opole) : (s.putOpole b).free = s.free := rfl
@[simp] theorem State.putOpole_pending (b : List Opole) : (s.putOpole b).pending = s.pending := rfl
@[simp] theorem State.putOpole_units_dln (b : List Opole) : (s.putOpole b).units.dln = s.units.dln := rfl
@[simp] theorem State.putOpole_units_dla (b : List Opole) : (s.putOpole b).units.dla = s.units.dla := rfl
@[simp] theorem State.putOpole_units_dll (b : List Opole) : (s.putOpole b).units.dll = s.units.dll := rfl
@[simp] theorem State.putOpole_units_biq (b : List Opole) : (s.putOpole b).units.biq = s.units.biq := rfl
@[simp] theorem State.putOpole_units_opole (b : List Opole) : (s.putOpole b).units.opole = b := rfl
@[simp] theorem State.putOpole_units_ozero (b : List Opole) : (s.putOpole b).units.ozero = s.units.ozero := rfl
@[simp] theorem State.putOpole_units_dcb (b : List Opole) : (s.putOpole b).units.dcb = s.units.dcb := rfl
@[simp] theorem State.putOpole_units_adsr (b : List Opole) : (s.putOpole b).units.adsr = s.units.adsr := rfl
@[simp] theorem State.putOpole_units_env (b : List Opole) : (s.putOpole b).units.env = s.units.env := rfl
@[simp] theorem State.putOpole_units_bow (b : List Opole) : (s.putOpole b).units.bow = s.units.bow := rfl
@[simp] theorem State.putOpole_units_reed (b : List Opole) : (s.putOpole b).units.reed = s.units.reed := rfl
@[simp] theorem State.putOpole_units_jet (b : List Opole) : (s.putOpole b).units.jet = s.units.jet := rfl
@[simp] theorem State.putOpole_units_noise (b : List Opole) : (s.putOpole b).units.noise = s.units.noise := rfl
@[simp] theorem State.putOpole_units_vib (b : List Opole) : (s.putOpole b).units.vib = s.units.vib := rfl
@[simp] theorem State.putOpole_models (b : List Opole) : (s.putOpole b).models = s.models := rfl

/-! putOzero -/

@[simp] theorem State.putOzero_params (b : List Ozero) : (s.putOzero b).params = s.params := rfl
@[simp] theorem State.putOzero_sr (b : List Ozero) : (s.putOzero b).sr = s.sr := rfl
@[simp] theorem State.putOzero_kr (b : List Ozero) : (s.putOzero b).kr = s.kr := rfl
@[simp] theorem State.putOzero_cmd (b : List Ozero) : (s.putOzero b).cmd = s.cmd := rfl
@[simp] theorem State.putOzero_a0 (b : List Ozero) : (s.putOzero b).a0 = s.a0 := rfl
@[simp] theorem State.putOzero_a1 (b : List Ozero) : (s.putOzero b).a1 = s.a1 := rfl
@[simp] theorem State.putOzero_a2 (b : List Ozero) : (s.putOzero b).a2 = s.a2 := rfl
@[simp] theorem State.putOzero_a3 (b : List Ozero) : (s.putOzero b).a3 = s.a3 := rfl
@[simp] theorem State.putOzero_iarg (b : List Ozero) : (s.putOzero b).iarg = s.iarg := rfl
@[simp] theorem State.putOzero_y (b : List Ozero) : (s.putOzero b).y = s.y := rfl
@[simp] theorem State.putOzero_status (b : List Ozero) : (s.putOzero b).status = s.status := rfl
@[simp] theorem State.putOzero_tables (b : List Ozero) : (s.putOzero b).tables = s.tables := rfl
@[simp] theorem State.putOzero_out (b : List Ozero) : (s.putOzero b).out = s.out := rfl
@[simp] theorem State.putOzero_noiseIn (b : List Ozero) : (s.putOzero b).noiseIn = s.noiseIn := rfl
@[simp] theorem State.putOzero_free (b : List Ozero) : (s.putOzero b).free = s.free := rfl
@[simp] theorem State.putOzero_pending (b : List Ozero) : (s.putOzero b).pending = s.pending := rfl
@[simp] theorem State.putOzero_units_dln (b : List Ozero) : (s.putOzero b).units.dln = s.units.dln := rfl
@[simp] theorem State.putOzero_units_dla (b : List Ozero) : (s.putOzero b).units.dla = s.units.dla := rfl
@[simp] theorem State.putOzero_units_dll (b : List Ozero) : (s.putOzero b).units.dll = s.units.dll := rfl
@[simp] theorem State.putOzero_units_biq (b : List Ozero) : (s.putOzero b).units.biq = s.units.biq := rfl
@[simp] theorem State.putOzero_units_opole (b : List Ozero) : (s.putOzero b).units.opole = s.units.opole := rfl
@[simp] theorem State.putOzero_units_ozero (b : List Ozero) : (s.putOzero b).units.ozero = b := rfl
@[simp] theorem State.putOzero_units_dcb (b : List Ozero) : (s.putOzero b).units.dcb = s.units.dcb := rfl
@[simp] theorem State.putOzero_units_adsr (b : List Ozero) : (s.putOzero b).units.adsr = s.units.adsr := rfl
@[simp] theorem State.putOzero_units_env (b : List Ozero) : (s.putOzero b).units.env = s.units.env := rfl
@[simp] theorem State.putOzero_units_bow (b : List Ozero) : (s.putOzero b).units.bow = s.units.bow := rfl
@[simp] theorem State.putOzero_units_reed (b : List Ozero) : (s.putOzero b).units.reed = s.units.reed := rfl
@[simp] theorem State.putOzero_units_jet (b : List Ozero) : (s.putOzero b).units.jet = s.units.jet := rfl
@[simp] theorem State.putOzero_units_noise (b : List Ozero) : (s.putOzero b).units.noise = s.units.noise := rfl
@[simp] theorem State.putOzero_units_vib (b : List Ozero) : (s.putOzero b).units.vib = s.units.vib := rfl
@[simp] theorem State.putOzero_models (b : List Ozero) : (s.putOzero b).models = s.models := rfl

/-! putDcb -/

@[simp] theorem State.putDcb_params (b : List Dcb) : (s.putDcb b).params = s.params := rfl
@[simp] theorem State.putDcb_sr (b : List Dcb) : (s.putDcb b).sr = s.sr := rfl
@[simp] theorem State.putDcb_kr (b : List Dcb) : (s.putDcb b).kr = s.kr := rfl
@[simp] theorem State.putDcb_cmd (b : List Dcb) : (s.putDcb b).cmd = s.cmd := rfl
@[simp] theorem State.putDcb_a0 (b : List Dcb) : (s.putDcb b).a0 = s.a0 := rfl
@[simp] theorem State.putDcb_a1 (b : List Dcb) : (s.putDcb b).a1 = s.a1 := rfl
@[simp] theorem State.putDcb_a2 (b : List Dcb) : (s.putDcb b).a2 = s.a2 := rfl
@[simp] theorem State.putDcb_a3 (b : List Dcb) : (s.putDcb b).a3 = s.a3 := rfl
@[simp] theorem State.putDcb_iarg (b : List Dcb) : (s.putDcb b).iarg = s.iarg := rfl
@[simp] theorem State.putDcb_y (b : List Dcb) : (s.putDcb b).y = s.y := rfl
@[simp] theorem State.putDcb_status (b : List Dcb) : (s.putDcb b).status = s.status := rfl
@[simp] theorem State.putDcb_tables (b : List Dcb) : (s.putDcb b).tables = s.tables := rfl
@[simp] theorem State.putDcb_out (b : List Dcb) : (s.putDcb b).out = s.out := rfl
@[simp] theorem State.putDcb_noiseIn (b : List Dcb) : (s.putDcb b).noiseIn = s.noiseIn := rfl
@[simp] theorem State.putDcb_free (b : List Dcb) : (s.putDcb b).free = s.free := rfl
@[simp] theorem State.putDcb_pending (b : List Dcb) : (s.putDcb b).pending = s.pending := rfl
@[simp] theorem State.putDcb_units_dln (b : List Dcb) : (s.putDcb b).units.dln = s.units.dln := rfl
@[simp] theorem State.putDcb_units_dla (b : List Dcb) : (s.putDcb b).units.dla = s.units.dla := rfl
@[simp] theorem State.putDcb_units_dll (b : List Dcb) : (s.putDcb b).units.dll = s.units.dll := rfl
@[simp] theorem State.putDcb_units_biq (b : List Dcb) : (s.putDcb b).units.biq = s.units.biq := rfl
@[simp] theorem State.putDcb_units_opole (b : List Dcb) : (s.putDcb b).units.opole = s.units.opole := rfl
@[simp] theorem State.putDcb_units_ozero (b : List Dcb) : (s.putDcb b).units.ozero = s.units.ozero := rfl
@[simp] theorem State.putDcb_units_dcb (b : List Dcb) : (s.putDcb b).units.dcb = b := rfl
@[simp] theorem State.putDcb_units_adsr (b : List Dcb) : (s.putDcb b).units.adsr = s.units.adsr := rfl
@[simp] theorem State.putDcb_units_env (b : List Dcb) : (s.putDcb b).units.env = s.units.env := rfl
@[simp] theorem State.putDcb_units_bow (b : List Dcb) : (s.putDcb b).units.bow = s.units.bow := rfl
@[simp] theorem State.putDcb_units_reed (b : List Dcb) : (s.putDcb b).units.reed = s.units.reed := rfl
@[simp] theorem State.putDcb_units_jet (b : List Dcb) : (s.putDcb b).units.jet = s.units.jet := rfl
@[simp] theorem State.putDcb_units_noise (b : List Dcb) : (s.putDcb b).units.noise = s.units.noise := rfl
@[simp] theorem State.putDcb_units_vib (b : List Dcb) : (s.putDcb b).units.vib = s.units.vib := rfl
@[simp] theorem State.putDcb_models (b : List Dcb) : (s.putDcb b).models = s.models := rfl

/-! putAdsr -/

@[simp] theorem State.putAdsr_params (b : List Adsr) : (s.putAdsr b).params = s.params := rfl
@[simp] theorem State.putAdsr_sr (b : List Adsr) : (s.putAdsr b).sr = s.sr := rfl
@[simp] theorem State.putAdsr_kr (b : List Adsr) : (s.putAdsr b).kr = s.kr := rfl
@[simp] theorem State.putAdsr_cmd (b : List Adsr) : (s.putAdsr b).cmd = s.cmd := rfl
@[simp] theorem State.putAdsr_a0 (b : List Adsr) : (s.putAdsr b).a0 = s.a0 := rfl
@[simp] theorem State.putAdsr_a1 (b : List Adsr) : (s.putAdsr b).a1 = s.a1 := rfl
@[simp] theorem State.putAdsr_a2 (b : List Adsr) : (s.putAdsr b).a2 = s.a2 := rfl
@[simp] theorem State.putAdsr_a3 (b : List Adsr) : (s.putAdsr b).a3 = s.a3 := rfl
@[simp] theorem State.putAdsr_iarg (b : List Adsr) : (s.putAdsr b).iarg = s.iarg := rfl
@[simp] theorem State.putAdsr_y (b : List Adsr) : (s.putAdsr b).y = s.y := rfl
@[simp] theorem State.putAdsr_status (b : List Adsr) : (s.putAdsr b).status = s.status := rfl
@[simp] theorem State.putAdsr_tables (b : List Adsr) : (s.putAdsr b).tables = s.tables := rfl
@[simp] theorem State.putAdsr_out (b : List Adsr) : (s.putAdsr b).out = s.out := rfl
@[simp] theorem State.putAdsr_noiseIn (b : List Adsr) : (s.putAdsr b).noiseIn = s.noiseIn := rfl
@[simp] theorem State.putAdsr_free (b : List Adsr) : (s.putAdsr b).free = s.free := rfl
@[simp] theorem State.putAdsr_pending (b : List Adsr) : (s.putAdsr b).pending = s.pending := rfl
@[simp] theorem State.putAdsr_units_dln (b : List Adsr) : (s.putAdsr b).units.dln = s.units.dln := rfl
@[simp] theorem State.putAdsr_units_dla (b : List Adsr) : (s.putAdsr b).units.dla = s.units.dla := rfl
@[simp] theorem State.putAdsr_units_dll (b : List Adsr) : (s.putAdsr b).units.dll = s.units.dll := rfl
@[simp] theorem State.putAdsr_units_biq (b : List Adsr) : (s.putAdsr b).units.biq = s.units.biq := rfl
@[simp] theorem State.putAdsr_units_opole (b : List Adsr) : (s.putAdsr b).units.opole = s.units.opole := rfl
@[simp] theorem State.putAdsr_units_ozero (b : List Adsr) : (s.putAdsr b).units.ozero = s.units.ozero := rfl
@[simp] theorem State.putAdsr_units_dcb (b : List Adsr) : (s.putAdsr b).units.dcb = s.units.dcb := rfl
@[simp] theorem State.putAdsr_units_adsr (b : List Adsr) : (s.putAdsr b).units.adsr = b := rfl
@[simp] theorem State.putAdsr_units_env (b : List Adsr) : (s.putAdsr b).units.env = s.units.env := rfl
@[simp] theorem State.putAdsr_units_bow (b : List Adsr) : (s.putAdsr b).units.bow = s.units.bow := rfl
@[simp] theorem State.putAdsr_units_reed (b : List Adsr) : (s.putAdsr b).units.reed = s.units.reed := rfl
@[simp] theorem State.putAdsr_units_jet (b : List Adsr) : (s.putAdsr b).units.jet = s.units.jet := rfl
@[simp] theorem State.putAdsr_units_noise (b : List Adsr) : (s.putAdsr b).units.noise = s.units.noise := rfl
@[simp] theorem State.putAdsr_units_vib (b : List Adsr) : (s.putAdsr b).units.vib = s.units.vib := rfl
@[simp] theorem State.putAdsr_models (b : List Adsr) : (s.putAdsr b).models = s.models := rfl

/-! putEnv -/

@[simp] theorem State.putEnv_params (b : List Env) : (s.putEnv b).params = s.params := rfl
@[simp] theorem State.putEnv_sr (b : List Env) : (s.putEnv b).sr = s.sr := rfl
@[simp] theorem State.putEnv_kr (b : List Env) : (s.putEnv b).kr = s.kr := rfl
@[simp] theorem State.putEnv_cmd (b : List Env) : (s.putEnv b).cmd = s.cmd := rfl
@[simp] theorem State.putEnv_a0 (b : List Env) : (s.putEnv b).a0 = s.a0 := rfl
@[simp] theorem State.putEnv_a1 (b : List Env) : (s.putEnv b).a1 = s.a1 := rfl
@[simp] theorem State.putEnv_a2 (b : List Env) : (s.putEnv b).a2 = s.a2 := rfl
@[simp] theorem State.putEnv_a3 (b : List Env) : (s.putEnv b).a3 = s.a3 := rfl
@[simp] theorem State.putEnv_iarg (b : List Env) : (s.putEnv b).iarg = s.iarg := rfl
@[simp] theorem State.putEnv_y (b : List Env) : (s.putEnv b).y = s.y := rfl
@[simp] theorem State.putEnv_status (b : List Env) : (s.putEnv b).status = s.status := rfl
@[simp] theorem State.putEnv_tables (b : List Env) : (s.putEnv b).tables = s.tables := rfl
@[simp] theorem State.putEnv_out (b : List Env) : (s.putEnv b).out = s.out := rfl
@[simp] theorem State.putEnv_noiseIn (b : List Env) : (s.putEnv b).noiseIn = s.noiseIn := rfl
@[simp] theorem State.putEnv_free (b : List Env) : (s.putEnv b).free = s.free := rfl
@[simp] theorem State.putEnv_pending (b : List Env) : (s.putEnv b).pending = s.pending := rfl
@[simp] theorem State.putEnv_units_dln (b : List Env) : (s.putEnv b).units.dln = s.units.dln := rfl
@[simp] theorem State.putEnv_units_dla (b : List Env) : (s.putEnv b).units.dla = s.units.dla := rfl
@[simp] theorem State.putEnv_units_dll (b : List Env) : (s.putEnv b).units.dll = s.units.dll := rfl
@[simp] theorem State.putEnv_units_biq (b : List Env) : (s.putEnv b).units.biq = s.units.biq := rfl
@[simp] theorem State.putEnv_units_opole (b : List Env) : (s.putEnv b).units.opole = s.units.opole := rfl
@[simp] theorem State.putEnv_units_ozero (b : List Env) : (s.putEnv b).units.ozero = s.units.ozero := rfl
@[simp] theorem State.putEnv_units_dcb (b : List Env) : (s.putEnv b).units.dcb = s.units.dcb := rfl
@[simp] theorem State.putEnv_units_adsr (b : List Env) : (s.putEnv b).units.adsr = s.units.adsr := rfl
@[simp] theorem State.putEnv_units_env (b : List Env) : (s.putEnv b).units.env = b := rfl
@[simp] theorem State.putEnv_units_bow (b : List Env) : (s.putEnv b).units.bow = s.units.bow := rfl
@[simp] theorem State.putEnv_units_reed (b : List Env) : (s.putEnv b).units.reed = s.units.reed := rfl
@[simp] theorem State.putEnv_units_jet (b : List Env) : (s.putEnv b).units.jet = s.units.jet := rfl
@[simp] theorem State.putEnv_units_noise (b : List Env) : (s.putEnv b).units.noise = s.units.noise := rfl
@[simp] theorem State.putEnv_units_vib (b : List Env) : (s.putEnv b).units.vib = s.units.vib := rfl
@[simp] theorem State.putEnv_models (b : List Env) : (s.putEnv b).models = s.models := rfl

/-! putBow -/

@[simp] theorem State.putBow_params (b : List Bow) : (s.putBow b).params = s.params := rfl
@[simp] theorem State.putBow_sr (b : List Bow) : (s.putBow b).sr = s.sr := rfl
@[simp] theorem State.putBow_kr (b : List Bow) : (s.putBow b).kr = s.kr := rfl
@[simp] theorem State.putBow_cmd (b : List Bow) : (s.putBow b).cmd = s.cmd := rfl
@[simp] theorem State.putBow_a0 (b : List Bow) : (s.putBow b).a0 = s.a0 := rfl
@[simp] theorem State.putBow_a1 (b : List Bow) : (s.putBow b).a1 = s.a1 := rfl
@[simp] theorem State.putBow_a2 (b : List Bow) : (s.putBow b).a2 = s.a2 := rfl
@[simp] theorem State.putBow_a3 (b : List Bow) : (s.putBow b).a3 = s.a3 := rfl
@[simp] theorem State.putBow_iarg (b : List Bow) : (s.putBow b).iarg = s.iarg := rfl
@[simp] theorem State.putBow_y (b : List Bow) : (s.putBow b).y = s.y := rfl
@[simp] theorem State.putBow_status (b : List Bow) : (s.putBow b).status = s.status := rfl
@[simp] theorem State.putBow_tables (b : List Bow) : (s.putBow b).tables = s.tables := rfl
@[simp] theorem State.putBow_out (b : List Bow) : (s.putBow b).out = s.out := rfl
@[simp] theorem State.putBow_noiseIn (b : List Bow) : (s.putBow b).noiseIn = s.noiseIn := rfl
@[simp] theorem State.putBow_free (b : List Bow) : (s.putBow b).free = s.free := rfl
@[simp] theorem State.putBow_pending (b : List Bow) : (s.putBow b).pending = s.pending := rfl
@[simp] theorem State.putBow_units_dln (b : List Bow) : (s.putBow b).units.dln = s.units.dln := rfl
@[simp] theorem State.putBow_units_dla (b : List Bow) : (s.putBow b).units.dla = s.units.dla := rfl
@[simp] theorem State.putBow_units_dll (b : List Bow) : (s.putBow b).units.dll = s.units.dll := rfl
@[simp] theorem State.putBow_units_biq (b : List Bow) : (s.putBow b).units.biq = s.units.biq := rfl
@[simp] theorem State.putBow_units_opole (b : List Bow) : (s.putBow b).units.opole = s.units.opole := rfl
@[simp] theorem State.putBow_units_ozero (b : List Bow) : (s.putBow b).units.ozero = s.units.ozero := rfl
@[simp] theorem State.putBow_units_dcb (b : List Bow) : (s.putBow b).units.dcb = s.units.dcb := rfl
@[simp] theorem State.putBow_units_adsr (b : List Bow) : (s.putBow b).units.adsr = s.units.adsr := rfl
@[simp] theorem State.putBow_units_env (b : List Bow) : (s.putBow b).units.env = s.units.env := rfl
@[simp] theorem State.putBow_units_bow (b : List Bow) : (s.putBow b).units.bow = b := rfl
@[simp] theorem State.putBow_units_reed (b : List Bow) : (s.putBow b).units.reed = s.units.reed := rfl
@[simp] theorem State.putBow_units_jet (b : List Bow) : (s.putBow b).units.jet = s.units.jet := rfl
@[simp] theorem State.putBow_units_noise (b : List Bow) : (s.putBow b).units.noise = s.units.noise := rfl
@[simp] theorem State.putBow_units_vib (b : List Bow) : (s.putBow b).units.vib = s.units.vib := rfl
@[simp] theorem State.putBow_models (b : List Bow) : (s.putBow b).models = s.models := rfl

/-! putReed -/

@[simp] theorem State.putReed_params (b : List Reed) : (s.putReed b).params = s.params := rfl
@[simp] theorem State.putReed_sr (b : List Reed) : (s.putReed b).sr = s.sr := rfl
@[simp] theorem State.putReed_kr (b : List Reed) : (s.putReed b).kr = s.kr := rfl
@[simp] theorem State.putReed_cmd (b : List Reed) : (s.putReed b).cmd = s.cmd := rfl
@[simp] theorem State.putReed_a0 (b : List Reed) : (s.putReed b).a0 = s.a0 := rfl
@[simp] theorem State.putReed_a1 (b : List Reed) : (s.putReed b).a1 = s.a1 := rfl
@[simp] theorem State.putReed_a2 (b : List Reed) : (s.putReed b).a2 = s.a2 := rfl
@[simp] theorem State.putReed_a3 (b : List Reed) : (s.putReed b).a3 = s.a3 := rfl
@[simp] theorem State.putReed_iarg (b : List Reed) : (s.putReed b).iarg = s.iarg := rfl
@[simp] theorem State.putReed_y (b : List Reed) : (s.putReed b).y = s.y := rfl
@[simp] theorem State.putReed_status (b : List Reed) : (s.putReed b).status = s.status := rfl
@[simp] theorem State.putReed_tables (b : List Reed) : (s.putReed b).tables = s.tables := rfl
@[simp] theorem State.putReed_out (b : List Reed) : (s.putReed b).out = s.out := rfl
@[simp] theorem State.putReed_noiseIn (b : List Reed) : (s.putReed b).noiseIn = s.noiseIn := rfl
@[simp] theorem State.putReed_free (b : List Reed) : (s.putReed b).free = s.free := rfl
@[simp] theorem State.putReed_pending (b : List Reed) : (s.putReed b).pending = s.pending := rfl
@[simp] theorem State.putReed_units_dln (b : List Reed) : (s.putReed b).units.dln = s.units.dln := rfl
@[simp] theorem State.putReed_units_dla (b : List Reed) : (s.putReed b).units.dla = s.units.dla := rfl
@[simp] theorem State.putReed_units_dll (b : List Reed) : (s.putReed b).units.dll = s.units.dll := rfl
@[simp] theorem State.putReed_units_biq (b : List Reed) : (s.putReed b).units.biq = s.units.biq := rfl
@[simp] theorem State.putReed_units_opole (b : List Reed) : (s.putReed b).units.opole = s.units.opole := rfl
@[simp] theorem State.putReed_units_ozero (b : List Reed) : (s.putReed b).units.ozero = s.units.ozero := rfl
@[simp] theorem State.putReed_units_dcb (b : List Reed) : (s.putReed b).units.dcb = s.units.dcb := rfl
@[simp] theorem State.putReed_units_adsr (b : List Reed) : (s.putReed b).units.adsr = s.units.adsr := rfl
@[simp] theorem State.putReed_units_env (b : List Reed) : (s.putReed b).units.env = s.units.env := rfl
@[simp] theorem State.putReed_units_bow (b : List Reed) : (s.putReed b).units.bow = s.units.bow := rfl
@[simp] theorem State.putReed_units_reed (b : List Reed) : (s.putReed b).units.reed = b := rfl
@[simp] theorem State.putReed_units_jet (b : List Reed) : (s.putReed b).units.jet = s.units.jet := rfl
@[simp] theorem State.putReed_units_noise (b : List Reed) : (s.putReed b).units.noise = s.units.noise := rfl
@[simp] theorem State.putReed_units_vib (b : List Reed) : (s.putReed b).units.vib = s.units.vib := rfl
@[simp] theorem State.putReed_models (b : List Reed) : (s.putReed b).models = s.models := rfl

/-! putJet -/

@[simp] theorem State.putJet_params (b : List Jet) : (s.putJet b).params = s.params := rfl
@[simp] theorem State.putJet_sr (b : List Jet) : (s.putJet b).sr = s.sr := rfl
@[simp] theorem State.putJet_kr (b : List Jet) : (s.putJet b).kr = s.kr := rfl
@[simp] theorem State.putJet_cmd (b : List Jet) : (s.putJet b).cmd = s.cmd := rfl
@[simp] theorem State.putJet_a0 (b : List Jet) : (s.putJet b).a0 = s.a0 := rfl
@[simp] theorem State.putJet_a1 (b : List Jet) : (s.putJet b).a1 = s.a1 := rfl
@[simp] theorem State.putJet_a2 (b : List Jet) : (s.putJet b).a2 = s.a2 := rfl
@[simp] theorem State.putJet_a3 (b : List Jet) : (s.putJet b).a3 = s.a3 := rfl
@[simp] theorem State.putJet_iarg (b : List Jet) : (s.putJet b).iarg = s.iarg := rfl
@[simp] theorem State.putJet_y (b : List Jet) : (s.putJet b).y = s.y := rfl
@[simp] theorem State.putJet_status (b : List Jet) : (s.putJet b).status = s.status := rfl
@[simp] theorem State.putJet_tables (b : List Jet) : (s.putJet b).tables = s.tables := rfl
@[simp] theorem State.putJet_out (b : List Jet) : (s.putJet b).out = s.out := rfl
@[simp] theorem State.putJet_noiseIn (b : List Jet) : (s.putJet b).noiseIn = s.noiseIn := rfl
@[simp] theorem State.putJet_free (b : List Jet) : (s.putJet b).free = s.free := rfl
@[simp] theorem State.putJet_pending (b : List Jet) : (s.putJet b).pending = s.pending := rfl
@[simp] theorem State.putJet_units_dln (b : List Jet) : (s.putJet b).units.dln = s.units.dln := rfl
@[simp] theorem State.putJet_units_dla (b : List Jet) : (s.putJet b).units.dla = s.units.dla := rfl
@[simp] theorem State.putJet_units_dll (b : List Jet) : (s.putJet b).units.dll = s.units.dll := rfl
@[simp] theorem State.putJet_units_biq (b : List Jet) : (s.putJet b).units.biq = s.units.biq := rfl
@[simp] theorem State.putJet_units_opole (b : List Jet) : (s.putJet b).units.opole = s.units.opole := rfl
@[simp] theorem State.putJet_units_ozero (b : List Jet) : (s.putJet b).units.ozero = s.units.ozero := rfl
@[simp] theorem State.putJet_units_dcb (b : List Jet) : (s.putJet b).units.dcb = s.units.dcb := rfl
@[simp] theorem State.putJet_units_adsr (b : List Jet) : (s.putJet b).units.adsr = s.units.adsr := rfl
@[simp] theorem State.putJet_units_env (b : List Jet) : (s.putJet b).units.env = s.units.env := rfl
@[simp] theorem State.putJet_units_bow (b : List Jet) : (s.putJet b).units.bow = s.units.bow := rfl
@[simp] theorem State.putJet_units_reed (b : List Jet) : (s.putJet b).units.reed = s.units.reed := rfl
@[simp] theorem State.putJet_units_jet (b : List Jet) : (s.putJet b).units.jet = b := rfl
@[simp] theorem State.putJet_units_noise (b : List Jet) : (s.putJet b).units.noise = s.units.noise := rfl
@[simp] theorem State.putJet_units_vib (b : List Jet) : (s.putJet b).units.vib = s.units.vib := rfl
@[simp] theorem State.putJet_models (b : List Jet) : (s.putJet b).models = s.models := rfl

/-! putNoise -/

@[simp] theorem State.putNoise_params (b : List Noise) : (s.putNoise b).params = s.params := rfl
@[simp] theorem State.putNoise_sr (b : List Noise) : (s.putNoise b).sr = s.sr := rfl
@[simp] theorem State.putNoise_kr (b : List Noise) : (s.putNoise b).kr = s.kr := rfl
@[simp] theorem State.putNoise_cmd (b : List Noise) : (s.putNoise b).cmd = s.cmd := rfl
@[simp] theorem State.putNoise_a0 (b : List Noise) : (s.putNoise b).a0 = s.a0 := rfl
@[simp] theorem State.putNoise_a1 (b : List Noise) : (s.putNoise b).a1 = s.a1 := rfl
@[simp] theorem State.putNoise_a2 (b : List Noise) : (s.putNoise b).a2 = s.a2 := rfl
@[simp] theorem State.putNoise_a3 (b : List Noise) : (s.putNoise b).a3 = s.a3 := rfl
@[simp] theorem State.putNoise_iarg (b : List Noise) : (s.putNoise b).iarg = s.iarg := rfl
@[simp] theorem State.putNoise_y (b : List Noise) : (s.putNoise b).y = s.y := rfl
@[simp] theorem State.putNoise_status (b : List Noise) : (s.putNoise b).status = s.status := rfl
@[simp] theorem State.putNoise_tables (b : List Noise) : (s.putNoise b).tables = s.tables := rfl
@[simp] theorem State.putNoise_out (b : List Noise) : (s.putNoise b).out = s.out := rfl
@[simp] theorem State.putNoise_noiseIn (b : List Noise) : (s.putNoise b).noiseIn = s.noiseIn := rfl
@[simp] theorem State.putNoise_free (b : List Noise) : (s.putNoise b).free = s.free := rfl
@[simp] theorem State.putNoise_pending (b : List Noise) : (s.putNoise b).pending = s.pending := rfl
@[simp] theorem State.putNoise_units_dln (b : List Noise) : (s.putNoise b).units.dln = s.units.dln := rfl
@[simp] theorem State.putNoise_units_dla (b : List Noise) : (s.putNoise b).units.dla = s.units.dla := rfl
@[simp] theorem State.putNoise_units_dll (b : List Noise) : (s.putNoise b).units.dll = s.units.dll := rfl
@[simp] theorem State.putNoise_units_biq (b : List Noise) : (s.putNoise b).units.biq = s.units.biq := rfl
@[simp] theorem State.putNoise_units_opole (b : List Noise) : (s.putNoise b).units.opole = s.units.opole := rfl
@[simp] theorem State.putNoise_units_ozero (b : List Noise) : (s.putNoise b).units.ozero = s.units.ozero := rfl
@[simp] theorem State.putNoise_units_dcb (b : List Noise) : (s.putNoise b).units.dcb = s.units.dcb := rfl
@[simp] theorem State.putNoise_units_adsr (b : List Noise) : (s.putNoise b).units.adsr = s.units.adsr := rfl
@[simp] theorem State.putNoise_units_env (b : List Noise) : (s.putNoise b).units.env = s.units.env := rfl
@[simp] theorem State.putNoise_units_bow (b : List Noise) : (s.putNoise b).units.bow = s.units.bow := rfl
@[simp] theorem State.putNoise_units_reed (b : List Noise) : (s.putNoise b).units.reed = s.units.reed := rfl
@[simp] theorem State.putNoise_units_jet (b : List Noise) : (s.putNoise b).units.jet = s.units.jet := rfl
@[simp] theorem State.putNoise_units_noise (b : List Noise) : (s.putNoise b).units.noise = b := rfl
@[simp] theorem State.putNoise_units_vib (b : List Noise) : (s.putNoise b).units.vib = s.units.vib := rfl
@[simp] theorem State.putNoise_models (b : List Noise) : (s.putNoise b).models = s.models := rfl

/-! putVib -/

@[simp] theorem State.putVib_params (b : List Vib) : (s.putVib b).params = s.params := rfl
@[simp] theorem State.putVib_sr (b : List Vib) : (s.putVib b).sr = s.sr := rfl
@[simp] theorem State.putVib_kr (b : List Vib) : (s.putVib b).kr = s.kr := rfl
@[simp] theorem State.putVib_cmd (b : List Vib) : (s.putVib b).cmd = s.cmd := rfl
@[simp] theorem State.putVib_a0 (b : List Vib) : (s.putVib b).a0 = s.a0 := rfl
@[simp] theorem State.putVib_a1 (b : List Vib) : (s.putVib b).a1 = s.a1 := rfl
@[simp] theorem State.putVib_a2 (b : List Vib) : (s.putVib b).a2 = s.a2 := rfl
@[simp] theorem State.putVib_a3 (b : List Vib) : (s.putVib b).a3 = s.a3 := rfl
@[simp] theorem State.putVib_iarg (b : List Vib) : (s.putVib b).iarg = s.iarg := rfl
@[simp] theorem State.putVib_y (b : List Vib) : (s.putVib b).y = s.y := rfl
@[simp] theorem State.putVib_status (b : List Vib) : (s.putVib b).status = s.status := rfl
@[simp] theorem State.putVib_tables (b : List Vib) : (s.putVib b).tables = s.tables := rfl
@[simp] theorem State.putVib_out (b : List Vib) : (s.putVib b).out = s.out := rfl
@[simp] theorem State.putVib_noiseIn (b : List Vib) : (s.putVib b).noiseIn = s.noiseIn := rfl
@[simp] theorem State.putVib_free (b : List Vib) : (s.putVib b).free = s.free := rfl
@[simp] theorem State.putVib_pending (b : List Vib) : (s.putVib b).pending = s.pending := rfl
@[simp] theorem State.putVib_units_dln (b : List Vib) : (s.putVib b).units.dln = s.units.dln := rfl
@[simp] theorem State.putVib_units_dla (b : List Vib) : (s.putVib b).units.dla = s.units.dla := rfl
@[simp] theorem State.putVib_units_dll (b : List Vib) : (s.putVib b).units.dll = s.units.dll := rfl
@[simp] theorem State.putVib_units_biq (b : List Vib) : (s.putVib b).units.biq = s.units.biq := rfl
@[simp] theorem State.putVib_units_opole (b : List Vib) : (s.putVib b).units.opole = s.units.opole := rfl
@[simp] theorem State.putVib_units_ozero (b : List Vib) : (s.putVib b).units.ozero = s.units.ozero := rfl
@[simp] theorem State.putVib_units_dcb (b : List Vib) : (s.putVib b).units.dcb = s.units.dcb := rfl
@[simp] theorem State.putVib_units_adsr (b : List Vib) : (s.putVib b).units.adsr = s.units.adsr := rfl
@[simp] theorem State.putVib_units_env (b : List Vib) : (s.putVib b).units.env = s.units.env := rfl
@[simp] theorem State.putVib_units_bow (b : List Vib) : (s.putVib b).units.bow = s.units.bow := rfl
@[simp] theorem State.putVib_units_reed (b : List Vib) : (s.putVib b).units.reed = s.units.reed := rfl
@[simp] theorem State.putVib_units_jet (b : List Vib) : (s.putVib b).units.jet = s.units.jet := rfl
@[simp] theorem State.putVib_units_noise (b : List Vib) : (s.putVib b).units.noise = s.units.noise := rfl
@[simp] theorem State.putVib_units_vib (b : List Vib) : (s.putVib b).units.vib = b := rfl
@[simp] theorem State.putVib_models (b : List Vib) : (s.putVib b).models = s.models := rfl

/-! putBar -/

@[simp] theorem State.putBar_params (b : List Bar) : (s.putBar b).params = s.params := rfl
@[simp] theorem State.putBar_sr (b : List Bar) : (s.putBar b).sr = s.sr := rfl
@[simp] theorem State.putBar_kr (b : List Bar) : (s.putBar b).kr = s.kr := rfl
@[simp] theorem State.putBar_cmd (b : List Bar) : (s.putBar b).cmd = s.cmd := rfl
@[simp] theorem State.putBar_a0 (b : List Bar) : (s.putBar b).a0 = s.a0 := rfl
@[simp] theorem State.putBar_a1 (b : List Bar) : (s.putBar b).a1 = s.a1 := rfl
@[simp] theorem State.putBar_a2 (b : List Bar) : (s.putBar b).a2 = s.a2 := rfl
@[simp] theorem State.putBar_a3 (b : List Bar) : (s.putBar b).a3 = s.a3 := rfl
@[simp] theorem State.putBar_iarg (b : List Bar) : (s.putBar b).iarg = s.iarg := rfl
@[simp] theorem State.putBar_y (b : List Bar) : (s.putBar b).y = s.y := rfl
@[simp] theorem State.putBar_status (b : List Bar) : (s.putBar b).status = s.status := rfl
@[simp] theorem State.putBar_tables (b : List Bar) : (s.putBar b).tables = s.tables := rfl
@[simp] theorem State.putBar_out (b : List Bar) : (s.putBar b).out = s.out := rfl
@[simp] theorem State.putBar_noiseIn (b : List Bar) : (s.putBar b).noiseIn = s.noiseIn := rfl
@[simp] theorem State.putBar_free (b : List Bar) : (s.putBar b).free = s.free := rfl
@[simp] theorem State.putBar_pending (b : List Bar) : (s.putBar b).pending = s.pending := rfl
@[simp] theorem State.putBar_units (b : List Bar) : (s.putBar b).units = s.units := rfl
@[simp] theorem State.putBar_models_bar (b : List Bar) : (s.putBar b).models.bar = b := rfl
@[simp] theorem State.putBar_models_clar (b : List Bar) : (s.putBar b).models.clar = s.models.clar := rfl
@[simp] theorem State.putBar_models_flute (b : List Bar) : (s.putBar b).models.flute = s.models.flute := rfl
@[simp] theorem State.putBar_models_bowed (b : List Bar) : (s.putBar b).models.bowed = s.models.bowed := rfl
@[simp] theorem State.putBar_models_brass (b : List Bar) : (s.putBar b).models.brass = s.models.brass := rfl

/-! putClar -/

@[simp] theorem State.putClar_params (b : List Clar) : (s.putClar b).params = s.params := rfl
@[simp] theorem State.putClar_sr (b : List Clar) : (s.putClar b).sr = s.sr := rfl
@[simp] theorem State.putClar_kr (b : List Clar) : (s.putClar b).kr = s.kr := rfl
@[simp] theorem State.putClar_cmd (b : List Clar) : (s.putClar b).cmd = s.cmd := rfl
@[simp] theorem State.putClar_a0 (b : List Clar) : (s.putClar b).a0 = s.a0 := rfl
@[simp] theorem State.putClar_a1 (b : List Clar) : (s.putClar b).a1 = s.a1 := rfl
@[simp] theorem State.putClar_a2 (b : List Clar) : (s.putClar b).a2 = s.a2 := rfl
@[simp] theorem State.putClar_a3 (b : List Clar) : (s.putClar b).a3 = s.a3 := rfl
@[simp] theorem State.putClar_iarg (b : List Clar) : (s.putClar b).iarg = s.iarg := rfl
@[simp] theorem State.putClar_y (b : List Clar) : (s.putClar b).y = s.y := rfl
@[simp] theorem State.putClar_status (b : List Clar) : (s.putClar b).status = s.status := rfl
@[simp] theorem State.putClar_tables (b : List Clar) : (s.putClar b).tables = s.tables := rfl
@[simp] theorem State.putClar_out (b : List Clar) : (s.putClar b).out = s.out := rfl
@[simp] theorem State.putClar_noiseIn (b : List Clar) : (s.putClar b).noiseIn = s.noiseIn := rfl
@[simp] theorem State.putClar_free (b : List Clar) : (s.putClar b).free = s.free := rfl
@[simp] theorem State.putClar_pending (b : List Clar) : (s.putClar b).pending = s.pending := rfl
@[simp] theorem State.putClar_units (b : List Clar) : (s.putClar b).units = s.units := rfl
@[simp] theorem State.putClar_models_bar (b : List Clar) : (s.putClar b).models.bar = s.models.bar := rfl
@[simp] theorem State.putClar_models_clar (b : List Clar) : (s.putClar b).models.clar = b := rfl
@[simp] theorem State.putClar_models_flute (b : List Clar) : (s.putClar b).models.flute = s.models.flute := rfl
@[simp] theorem State.putClar_models_bowed (b : List Clar) : (s.putClar b).models.bowed = s.models.bowed := rfl
@[simp] theorem State.putClar_models_brass (b : List Clar) : (s.putClar b).models.brass = s.models.brass := rfl

/-! putFlute -/

@[simp] theorem State.putFlute_params (b : List Flute) : (s.putFlute b).params = s.params := rfl
@[simp] theorem State.putFlute_sr (b : List Flute) : (s.putFlute b).sr = s.sr := rfl
@[simp] theorem State.putFlute_kr (b : List Flute) : (s.putFlute b).kr = s.kr := rfl
@[simp] theorem State.putFlute_cmd (b : List Flute) : (s.putFlute b).cmd = s.cmd := rfl
@[simp] theorem State.putFlute_a0 (b : List Flute) : (s.putFlute b).a0 = s.a0 := rfl
@[simp] theorem State.putFlute_a1 (b : List Flute) : (s.putFlute b).a1 = s.a1 := rfl
@[simp] theorem State.putFlute_a2 (b : List Flute) : (s.putFlute b).a2 = s.a2 := rfl
@[simp] theorem State.putFlute_a3 (b : List Flute) : (s.putFlute b).a3 = s.a3 := rfl
@[simp] theorem State.putFlute_iarg (b : List Flute) : (s.putFlute b).iarg = s.iarg := rfl
@[simp] theorem State.putFlute_y (b : List Flute) : (s.putFlute b).y = s.y := rfl
@[simp] theorem State.putFlute_status (b : List Flute) : (s.putFlute b).status = s.status := rfl
@[simp] theorem State.putFlute_tables (b : List Flute) : (s.putFlute b).tables = s.tables := rfl
@[simp] theorem State.putFlute_out (b : List Flute) : (s.putFlute b).out = s.out := rfl
@[simp] theorem State.putFlute_noiseIn (b : List Flute) : (s.putFlute b).noiseIn = s.noiseIn := rfl
@[simp] theorem State.putFlute_free (b : List Flute) : (s.putFlute b).free = s.free := rfl
@[simp] theorem State.putFlute_pending (b : List Flute) : (s.putFlute b).pending = s.pending := rfl
@[simp] theorem State.putFlute_units (b : List Flute) : (s.putFlute b).units = s.units := rfl
@[simp] theorem State.putFlute_models_bar (b : List Flute) : (s.putFlute b).models.bar = s.models.bar := rfl
@[simp] theorem State.putFlute_models_clar (b : List Flute) : (s.putFlute b).models.clar = s.models.clar := rfl
@[simp] theorem State.putFlute_models_flute (b : List Flute) : (s.putFlute b).models.flute = b := rfl
@[simp] theorem State.putFlute_models_bowed (b : List Flute) : (s.putFlute b).models.bowed = s.models.bowed := rfl
@[simp] theorem State.putFlute_models_brass (b : List Flute) : (s.putFlute b).models.brass = s.models.brass := rfl

/-! putBowed -/

@[simp] theorem State.putBowed_params (b : List Bowed) : (s.putBowed b).params = s.params := rfl
@[simp] theorem State.putBowed_sr (b : List Bowed) : (s.putBowed b).sr = s.sr := rfl
@[simp] theorem State.putBowed_kr (b : List Bowed) : (s.putBowed b).kr = s.kr := rfl
@[simp] theorem State.putBowed_cmd (b : List Bowed) : (s.putBowed b).cmd = s.cmd := rfl
@[simp] theorem State.putBowed_a0 (b : List Bowed) : (s.putBowed b).a0 = s.a0 := rfl
@[simp] theorem State.putBowed_a1 (b : List Bowed) : (s.putBowed b).a1 = s.a1 := rfl
@[simp] theorem State.putBowed_a2 (b : List Bowed) : (s.putBowed b).a2 = s.a2 := rfl
@[simp] theorem State.putBowed_a3 (b : List Bowed) : (s.putBowed b).a3 = s.a3 := rfl
@[simp] theorem State.putBowed_iarg (b : List Bowed) : (s.putBowed b).iarg = s.iarg := rfl
@[simp] theorem State.putBowed_y (b : List Bowed) : (s.putBowed b).y = s.y := rfl
@[simp] theorem State.putBowed_status (b : List Bowed) : (s.putBowed b).status = s.status := rfl
@[simp] theorem State.putBowed_tables (b : List Bowed) : (s.putBowed b).tables = s.tables := rfl
@[simp] theorem State.putBowed_out (b : List Bowed) : (s.putBowed b).out = s.out := rfl
@[simp] theorem State.putBowed_noiseIn (b : List Bowed) : (s.putBowed b).noiseIn = s.noiseIn := rfl
@[simp] theorem State.putBowed_free (b : List Bowed) : (s.putBowed b).free = s.free := rfl
@[simp] theorem State.putBowed_pending (b : List Bowed) : (s.putBowed b).pending = s.pending := rfl
@[simp] theorem State.putBowed_units (b : List Bowed) : (s.putBowed b).units = s.units := rfl
@[simp] theorem State.putBowed_models_bar (b : List Bowed) : (s.putBowed b).models.bar = s.models.bar := rfl
@[simp] theorem State.putBowed_models_clar (b : List Bowed) : (s.putBowed b).models.clar = s.models.clar := rfl
@[simp] theorem State.putBowed_models_flute (b : List Bowed) : (s.putBowed b).models.flute = s.models.flute := rfl
@[simp] theorem State.putBowed_models_bowed (b : List Bowed) : (s.putBowed b).models.bowed = b := rfl
@[simp] theorem State.putBowed_models_brass (b : List Bowed) : (s.putBowed b).models.brass = s.models.brass := rfl

/-! putBrass -/

@[simp] theorem State.putBrass_params (b : List Brass) : (s.putBrass b).params = s.params := rfl
@[simp] theorem State.putBrass_sr (b : List Brass) : (s.putBrass b).sr = s.sr := rfl
@[simp] theorem State.putBrass_kr (b : List Brass) : (s.putBrass b).kr = s.kr := rfl
@[simp] theorem State.putBrass_cmd (b : List Brass) : (s.putBrass b).cmd = s.cmd := rfl
@[simp] theorem State.putBrass_a0 (b : List Brass) : (s.putBrass b).a0 = s.a0 := rfl
@[simp] theorem State.putBrass_a1 (b : List Brass) : (s.putBrass b).a1 = s.a1 := rfl
@[simp] theorem State.putBrass_a2 (b : List Brass) : (s.putBrass b).a2 = s.a2 := rfl
@[simp] theorem State.putBrass_a3 (b : List Brass) : (s.putBrass b).a3 = s.a3 := rfl
@[simp] theorem State.putBrass_iarg (b : List Brass) : (s.putBrass b).iarg = s.iarg := rfl
@[simp] theorem State.putBrass_y (b : List Brass) : (s.putBrass b).y = s.y := rfl
@[simp] theorem State.putBrass_status (b : List Brass) : (s.putBrass b).status = s.status := rfl
@[simp] theorem State.putBrass_tables (b : List Brass) : (s.putBrass b).tables = s.tables := rfl
@[simp] theorem State.putBrass_out (b : List Brass) : (s.putBrass b).out = s.out := rfl
@[simp] theorem State.putBrass_noiseIn (b : List Brass) : (s.putBrass b).noiseIn = s.noiseIn := rfl
@[simp] theorem State.putBrass_free (b : List Brass) : (s.putBrass b).free = s.free := rfl
@[simp] theorem State.putBrass_pending (b : List Brass) : (s.putBrass b).pending = s.pending := rfl
@[simp] theorem State.putBrass_units (b : List Brass) : (s.putBrass b).units = s.units := rfl
@[simp] theorem State.putBrass_models_bar (b : List Brass) : (s.putBrass b).models.bar = s.models.bar := rfl
@[simp] theorem State.putBrass_models_clar (b : List Brass) : (s.putBrass b).models.clar = s.models.clar := rfl
@[simp] theorem State.putBrass_models_flute (b : List Brass) : (s.putBrass b).models.flute = s.models.flute := rfl
@[simp] theorem State.putBrass_models_bowed (b : List Brass) : (s.putBrass b).models.bowed = s.models.bowed := rfl
@[simp] theorem State.putBrass_models_brass (b : List Brass) : (s.putBrass b).models.brass = b := rfl

end Sys2Proof.Machine
end

