-- ==== Sys2Proof/Laws/Ops.lean ====
section
/-! SUPPORT. For each shared operation, once, everything it can do: provers cite these and unfold no operation. The host's
memories keep their canonical form. -/

namespace Sys2Proof.Machine

/-! ### Operands -/

/-- IARG as a number is its unsigned value (30_encoding.md R106). -/
theorem State.iargNat_eq (s : State) : s.iargNat = s.iarg.toNat := Int.toNat_natCast _

@[simp] theorem State.ctx_f (s : State) : s.ctx.f = s.params.fmt := rfl
@[simp] theorem State.ctx_p (s : State) : s.ctx.p = s.params := rfl
@[simp] theorem State.ctx_sr (s : State) : s.ctx.sr = s.sr := rfl
@[simp] theorem State.ctx_kr (s : State) : s.ctx.kr = s.kr := rfl
@[simp] theorem State.ctx_tables (s : State) : s.ctx.tables = s.tables := rfl

/-! ### Answers of rules -/

@[simp] theorem Res.map_ok {α β : Type} (g : α → β) (w : U32) (a : α) : (Res.ok w a).map g = .ok w (g a) := rfl
@[simp] theorem Res.map_raise {α β : Type} (g : α → β) (w e : U32) : (Res.raise w e : Res α).map g = .raise w e := rfl

/-- A completed answer that a map made. -/
theorem Res.map_ok_iff {α β : Type} {g : α → β} {r : Res α} {w : U32} {b : β} :
    r.map g = .ok w b ↔ ∃ a, r = .ok w a ∧ g a = b := by
  cases r <;> simp [Res.map]

/-- A required condition: it holds and the rule goes on, or it does not and the error is raised. -/
theorem Res.require_cases {α : Type} (cond : Bool) (err : U32) (r : Res α) :
    (cond = true ∧ Res.require cond err r = r) ∨ (cond = false ∧ Res.require cond err r = .raise 0 err) := by
  cases cond
  · exact .inr ⟨rfl, rfl⟩
  · exact .inl ⟨rfl, rfl⟩

/-- The completed answer of a rule behind a required condition. -/
theorem Res.require_ok_iff {α : Type} {cond : Bool} {err w : U32} {r : Res α} {a : α} :
    Res.require cond err r = .ok w a ↔ cond = true ∧ r = .ok w a := by
  cases cond <;> simp [Res.require]

/-- What an envelope rate operand can answer (42_envelopes.md R213). -/
theorem rateOperand_cases (f : Fmt) (r : Flt) :
    (f.isNaN r = true ∧ rateOperand f r = .raise 0 errOperand)
      ∨ (f.isNaN r = false ∧ f.lt r Flt.zero = true ∧ rateOperand f r = .ok warnRate (f.abs r))
      ∨ (f.isNaN r = false ∧ f.lt r Flt.zero = false ∧ rateOperand f r = .ok 0 r) := by
  unfold rateOperand
  cases f.isNaN r
  · cases f.lt r Flt.zero <;> simp
  · simp

/-- What a lag operand can answer (40_delay_lines.md R132): an error for NaN, the upper bound or the lower bound with WARN_CLAMP,
or the lag as it is. -/
theorem lagOperand_cases {α : Type} (f : Fmt) (lag : Flt) (cap lo : Nat) (bound : Nat → α) (keep : Flt → α) :
    (f.isNaN lag = true ∧ lagOperand f lag cap lo bound keep = .raise 0 errOperand)
      ∨ (f.isNaN lag = false ∧ f.gtNat lag (cap - 1) = true
          ∧ lagOperand f lag cap lo bound keep = .ok warnClamp (bound (Nat.max (cap - 1) lo)))
      ∨ (f.isNaN lag = false ∧ f.gtNat lag (cap - 1) = false ∧ f.lt lag (f.fromNat lo) = true
          ∧ lagOperand f lag cap lo bound keep = .ok warnClamp (bound lo))
      ∨ (f.isNaN lag = false ∧ f.gtNat lag (cap - 1) = false ∧ f.lt lag (f.fromNat lo) = false
          ∧ lagOperand f lag cap lo bound keep = .ok 0 (keep lag)) := by
  unfold lagOperand
  cases f.isNaN lag <;> cases f.gtNat lag (cap - 1) <;> cases f.lt lag (f.fromNat lo) <;> simp

/-- A lag that is a number is taken, with at most WARN_CLAMP. -/
theorem lagOperand_ok {α : Type} {f : Fmt} {lag : Flt} (h : f.isNaN lag = false) (cap lo : Nat) (bound : Nat → α)
    (keep : Flt → α) : ∃ w l, (w = 0 ∨ w = warnClamp) ∧ lagOperand f lag cap lo bound keep = .ok w l := by
  rcases lagOperand_cases f lag cap lo bound keep with ⟨h', -⟩ | ⟨-, -, he⟩ | ⟨-, -, -, he⟩ | ⟨-, -, -, he⟩
  · simp [h] at h'
  · exact ⟨_, _, .inr rfl, he⟩
  · exact ⟨_, _, .inr rfl, he⟩
  · exact ⟨_, _, .inl rfl, he⟩

/-! ### The shapes of a command -/

/-- Everything a command that only reads a unit can do. -/
theorem unitRead_cases {α : Type} {bank : List α} {i : Nat} {s t : State} {out : α → Flt}
    (h : unitRead bank i s out = .next t) :
    (bank[i]? = none ∧ t = s.illegal) ∨ ∃ u, bank[i]? = some u ∧ t = s.start.setY (out u) := by
  unfold unitRead at h
  split at h
  · next hb => exact .inl ⟨hb, by cases h; rfl⟩
  · next u hb => exact .inr ⟨u, hb, by cases h; rfl⟩

/-- Everything a command that changes a unit and writes no result can do. -/
theorem unitSet_cases {α : Type} {bank : List α} {put : State → List α → State} {i : Nat} {s t : State}
    {op : α → Res α} (h : unitSet bank put i s op = .next t) :
    (bank[i]? = none ∧ t = s.illegal)
      ∨ (∃ u w e, bank[i]? = some u ∧ op u = .raise w e ∧ t = s.abandon w e)
      ∨ (∃ u w u', bank[i]? = some u ∧ op u = .ok w u' ∧ t = put (s.start.warn w) (bank.set i u')) := by
  unfold unitSet at h
  split at h
  · next hb => exact .inl ⟨hb, by cases h; rfl⟩
  · next u hb =>
    split at h
    · next w e ho => exact .inr (.inl ⟨u, w, e, hb, ho, by cases h; rfl⟩)
    · next w u' ho => exact .inr (.inr ⟨u, w, u', hb, ho, by cases h; rfl⟩)

/-- Everything a command that changes a unit and writes its result can do. -/
theorem unitTick_cases {α : Type} {bank : List α} {put : State → List α → State} {i : Nat} {s t : State}
    {op : α → Res (Flt × α)} (h : unitTick bank put i s op = .next t) :
    (bank[i]? = none ∧ t = s.illegal)
      ∨ (∃ u w e, bank[i]? = some u ∧ op u = .raise w e ∧ t = s.abandon w e)
      ∨ (∃ u w r, bank[i]? = some u ∧ op u = .ok w r ∧ t = (put (s.start.warn w) (bank.set i r.2)).setY r.1) := by
  unfold unitTick at h
  split at h
  · next hb => exact .inl ⟨hb, by cases h; rfl⟩
  · next u hb =>
    split at h
    · next w e ho => exact .inr (.inl ⟨u, w, e, hb, ho, by cases h; rfl⟩)
    · next w r ho => exact .inr (.inr ⟨u, w, r, hb, ho, by cases h; rfl⟩)

/-- Everything a command that draws free values can do. -/
theorem unitDraw_cases {α : Type} {bank : List α} {put : State → List α → State} {i : Nat} {s t : State}
    {op : α → Fx → Res (Flt × α × Fx)} (h : unitDraw bank put i s op = .next t) :
    (bank[i]? = none ∧ t = s.illegal)
      ∨ (∃ u w e, bank[i]? = some u ∧ op u (s.fx false) = .raise w e ∧ t = s.abandon w e)
      ∨ (∃ u w r, bank[i]? = some u ∧ op u (s.fx false) = .ok w r
          ∧ t = ((put (s.start.warn w) (bank.set i r.2.1)).takeFx r.2.2).setY r.1) := by
  unfold unitDraw at h
  split at h
  · next hb => exact .inl ⟨hb, by cases h; rfl⟩
  · next u hb =>
    split at h
    · next w e ho => exact .inr (.inl ⟨u, w, e, hb, ho, by cases h; rfl⟩)
    · next w r ho => exact .inr (.inr ⟨u, w, r, hb, ho, by cases h; rfl⟩)

variable {M : Type}

/-- Everything `<m>.init` can do (44_models_common.md R276). -/
theorem modelInit_cases {k : ModelKit M} {bank : List M} {put : State → List M → State} {i : Nat} {s t : State}
    (h : modelInit k bank put i s = .next t) :
    (bank[i]? = none ∧ t = s.illegal)
      ∨ (∃ m w e, bank[i]? = some m ∧ initNote k s.ctx m (s.fx true) = .raise w e
          ∧ t = put (s.abandon w e) (bank.set i (k.setHdr { k.hdr m with mstate := .failed } m)))
      ∨ (∃ m w m', bank[i]? = some m ∧ initNote k s.ctx m (s.fx true) = .ok w m'
          ∧ t = put (s.start.warn w) (bank.set i m')) := by
  unfold modelInit at h
  split at h
  · next hb => exact .inl ⟨hb, by cases h; rfl⟩
  · next m hb =>
    split at h
    · next w e ho => exact .inr (.inl ⟨m, w, e, hb, ho, by cases h; rfl⟩)
    · next w m' ho => exact .inr (.inr ⟨m, w, m', hb, ho, by cases h; rfl⟩)

/-- Everything `<m>.render` can do (44_models_common.md R285). -/
theorem modelRender_cases {k : ModelKit M} {bank : List M} {put : State → List M → State} {i : Nat} {s t : State}
    (h : modelRender k bank put i s = .next t) :
    (bank[i]? = none ∧ t = s.illegal)
      ∨ (∃ m, bank[i]? = some m ∧ (k.hdr m).mstate ≠ .running ∧ t = s.abandon 0 errState)
      ∨ (∃ m w e, bank[i]? = some m ∧ (k.hdr m).mstate = .running
          ∧ renderBody k s.ctx s.iargNat m (s.fx true) = .raise w e ∧ t = s.abandon w e)
      ∨ (∃ m w ys m' fx, bank[i]? = some m ∧ (k.hdr m).mstate = .running
          ∧ renderBody k s.ctx s.iargNat m (s.fx true) = .ok w (ys, m', fx)
          ∧ t = { (put (s.start.warn w) (bank.set i m')).takeFx fx with
                  out := outBlock 0 ys ((put (s.start.warn w) (bank.set i m')).takeFx fx).out }) := by
  unfold modelRender at h
  split at h
  · next hb => exact .inl ⟨hb, by cases h; rfl⟩
  · next m hb =>
    split at h
    · next hr =>
      split at h
      · next w e ho => exact .inr (.inr (.inl ⟨m, w, e, hb, hr, ho, by cases h; rfl⟩))
      · next w r ho => exact .inr (.inr (.inr ⟨m, w, r.1, r.2.1, r.2.2, hb, hr, ho, by cases h; rfl⟩))
    · next hr => exact .inr (.inl ⟨m, hb, hr, by cases h; rfl⟩)

/-- What the body of a RENDER can answer (44_models_common.md R285, 60_exceptions.md R363). -/
theorem renderBody_cases (k : ModelKit M) (c : Ctx) (n : Nat) (m : M) (fx : Fx) :
    ((renderPrep k c m fx).2.raised ≠ 0
        ∧ renderBody k c n m fx = .raise (renderPrep k c m fx).2.warns (renderPrep k c m fx).2.raised)
      ∨ ((renderPrep k c m fx).2.raised = 0
        ∧ renderBody k c n m fx =
          .ok (renderLoop k c n (renderPrep k c m fx).1 { (renderPrep k c m fx).2 with strict := false }).2.2.warns
            (renderLoop k c n (renderPrep k c m fx).1 { (renderPrep k c m fx).2 with strict := false })) := by
  unfold renderBody
  by_cases h : (renderPrep k c m fx).2.raised = 0#32
  · exact .inr ⟨h, by simp [h]⟩
  · exact .inl ⟨h, by simp [h]⟩

/-- Everything an INIT can answer (44_models_common.md R276), with the condition of each answer. -/
theorem initNote_ok {k : ModelKit M} {c : Ctx} {m m' : M} {fx : Fx} {w : U32} (h : initNote k c m fx = .ok w m') :
    ∃ n : Int, bufferRequest c (k.km c.p) (lowestFrequency c (k.hdr m) (k.fmax c)).1 = some n
      ∧ n + 1 ≤ (c.p.maxCap : Int)
      ∧ (startNote k c n.toNat (tableIdOf k c m).toNat (lowestFrequency c (k.hdr m) (k.fmax c)).1 m fx).2.raised = 0
      ∧ m' = (startNote k c n.toNat (tableIdOf k c m).toNat (lowestFrequency c (k.hdr m) (k.fmax c)).1 m fx).1 := by
  unfold initNote at h
  split at h
  · cases h
  split at h
  · cases h
  simp only at h
  split at h
  · cases h
  · next n hn =>
    split at h
    · cases h
    · next hle =>
      split at h
      · cases h
      · next hr =>
        cases h
        exact ⟨n, hn, by omega, by simpa using hr, rfl⟩

/-- The samples of a RENDER are as many as asked for (44_models_common.md R285). -/
theorem renderLoop_length (k : ModelKit M) (c : Ctx) (n : Nat) (m : M) (fx : Fx) :
    (renderLoop k c n m fx).1.length = n := by
  induction n generalizing m fx with
  | zero => rfl
  | succ n ih => simp [renderLoop, ih]

/-- Rendering `a + b` samples is rendering `a` and going on with `b`. -/
theorem renderLoop_add (k : ModelKit M) (c : Ctx) (a b : Nat) (m : M) (fx : Fx) :
    renderLoop k c (a + b) m fx =
      ((renderLoop k c a m fx).1 ++ (renderLoop k c b (renderLoop k c a m fx).2.1 (renderLoop k c a m fx).2.2).1,
        (renderLoop k c b (renderLoop k c a m fx).2.1 (renderLoop k c a m fx).2.2).2) := by
  induction a generalizing m fx with
  | zero => simp [renderLoop]
  | succ a ih => rw [Nat.succ_add]; simp [renderLoop, ih]

/-- A property every sample keeps, the whole loop keeps. -/
theorem renderLoop_induction {k : ModelKit M} {c : Ctx} {P : M → Fx → Prop}
    (step : ∀ m fx, P m fx → P (k.sample c m fx).m (k.sample c m fx).fx) (n : Nat) (m : M) (fx : Fx) (h : P m fx) :
    P (renderLoop k c n m fx).2.1 (renderLoop k c n m fx).2.2 := by
  induction n generalizing m fx with
  | zero => exact h
  | succ n ih => exact ih _ _ (step _ _ h)

/-! ### Effects of private units -/

@[simp] theorem Fx.warn_raised (fx : Fx) (w : U32) : (fx.warn w).raised = fx.raised := by unfold Fx.warn; split <;> rfl
@[simp] theorem Fx.warn_noise (fx : Fx) (w : U32) : (fx.warn w).noise = fx.noise := by unfold Fx.warn; split <;> rfl
@[simp] theorem Fx.warn_free (fx : Fx) (w : U32) : (fx.warn w).free = fx.free := by unfold Fx.warn; split <;> rfl
@[simp] theorem Fx.warn_strict (fx : Fx) (w : U32) : (fx.warn w).strict = fx.strict := by unfold Fx.warn; split <;> rfl
@[simp] theorem Fx.raise_noise (fx : Fx) (e : U32) : (fx.raise e).noise = fx.noise := by unfold Fx.raise; split <;> rfl
@[simp] theorem Fx.raise_free (fx : Fx) (e : U32) : (fx.raise e).free = fx.free := by unfold Fx.raise; split <;> rfl
@[simp] theorem Fx.raise_strict (fx : Fx) (e : U32) : (fx.raise e).strict = fx.strict := by unfold Fx.raise; split <;> rfl

@[simp] theorem Fx.absorb_ok {α : Type} (fx : Fx) (u a : α) (w : U32) : fx.absorb u (.ok w a) = (a, fx.warn w) := rfl
@[simp] theorem Fx.absorb_raise {α : Type} (fx : Fx) (u : α) (w e : U32) :
    fx.absorb u (.raise w e) = (u, (fx.warn w).raise e) := rfl

/-- Taking a private unit's answer draws nothing. -/
@[simp] theorem Fx.absorb_noise {α : Type} (fx : Fx) (u : α) (r : Res α) : (fx.absorb u r).2.noise = fx.noise := by
  cases r <;> simp
@[simp] theorem Fx.absorb_free {α : Type} (fx : Fx) (u : α) (r : Res α) : (fx.absorb u r).2.free = fx.free := by
  cases r <;> simp

/-- Where errors count, an error stays raised. -/
theorem Fx.raise_ne_zero {fx : Fx} {e : U32} (hs : fx.strict = true) (h : e ≠ 0#32) : (fx.raise e).raised ≠ 0#32 := by
  unfold Fx.raise
  by_cases h0 : fx.raised = 0#32 <;> simp [hs, h0, h]

/-- In a sample loop no error shows (60_exceptions.md R361). -/
theorem Fx.raise_loop {fx : Fx} (hs : fx.strict = false) (e : U32) : fx.raise e = fx := by simp [Fx.raise, hs]

/-- Of several errors the first one counts (60_exceptions.md R363). -/
theorem Fx.raise_first {fx : Fx} (h : fx.raised ≠ 0#32) (e : U32) : fx.raise e = fx := by
  simp [Fx.raise, h]

/-- What an error makes of the errors so far. -/
theorem Fx.raise_raised (fx : Fx) (e : U32) : (fx.raise e).raised = fx.raised ∨ (fx.raise e).raised = e := by
  unfold Fx.raise
  split
  · exact .inr rfl
  · exact .inl rfl

/-! ### Sorted association lists -/

theorem Assoc.wf_cons {β : Type} {j : Nat} {u : β} {rest : List (Nat × β)} :
    Assoc.wf ((j, u) :: rest) = true ↔ (∀ e ∈ rest, j < e.1) ∧ Assoc.wf rest = true := by
  simp [Assoc.wf]

theorem Assoc.mem_insert {β : Type} {k : Nat} {v : β} {m : List (Nat × β)} {e : Nat × β} (h : e ∈ Assoc.insert k v m) :
    e = (k, v) ∨ e ∈ m := by
  induction m with
  | nil => simpa [Assoc.insert] using h
  | cons x rest ih =>
    obtain ⟨j, u⟩ := x
    unfold Assoc.insert at h
    split at h
    · simpa using h
    · split at h
      · rcases List.mem_cons.mp h with h | h
        · exact .inl h
        · exact .inr (List.mem_cons_of_mem _ h)
      · rcases List.mem_cons.mp h with h | h
        · exact .inr (h ▸ List.mem_cons_self)
        · rcases ih h with h | h
          · exact .inl h
          · exact .inr (List.mem_cons_of_mem _ h)

theorem Assoc.mem_erase {β : Type} {k : Nat} {m : List (Nat × β)} {e : Nat × β} (h : e ∈ Assoc.erase k m) : e ∈ m := by
  induction m with
  | nil => simp [Assoc.erase] at h
  | cons x rest ih =>
    obtain ⟨j, u⟩ := x
    unfold Assoc.erase at h
    split at h
    · exact List.mem_cons_of_mem _ h
    · rcases List.mem_cons.mp h with h | h
      · exact h ▸ List.mem_cons_self
      · exact List.mem_cons_of_mem _ (ih h)

/-- A write keeps the canonical form. -/
theorem Assoc.insert_wf {β : Type} (k : Nat) (v : β) {m : List (Nat × β)} (h : Assoc.wf m = true) :
    Assoc.wf (Assoc.insert k v m) = true := by
  induction m with
  | nil => rfl
  | cons x rest ih =>
    obtain ⟨j, u⟩ := x
    obtain ⟨h1, h2⟩ := Assoc.wf_cons.mp h
    unfold Assoc.insert
    split
    · next hk =>
      refine Assoc.wf_cons.mpr ⟨?_, h⟩
      intro e he
      rcases List.mem_cons.mp he with he | he
      · subst he; exact hk
      · exact Nat.lt_trans hk (h1 e he)
    · split
      · next hk => subst hk; exact Assoc.wf_cons.mpr ⟨h1, h2⟩
      · next hlt hne =>
        refine Assoc.wf_cons.mpr ⟨?_, ih h2⟩
        intro e he
        rcases Assoc.mem_insert he with he | he
        · subst he; show j < k; omega
        · exact h1 e he

/-- A removal keeps the canonical form. -/
theorem Assoc.erase_wf {β : Type} (k : Nat) {m : List (Nat × β)} (h : Assoc.wf m = true) :
    Assoc.wf (Assoc.erase k m) = true := by
  induction m with
  | nil => rfl
  | cons x rest ih =>
    obtain ⟨j, u⟩ := x
    obtain ⟨h1, h2⟩ := Assoc.wf_cons.mp h
    unfold Assoc.erase
    split
    · exact h2
    · exact Assoc.wf_cons.mpr ⟨fun e he => h1 e (Assoc.mem_erase he), ih h2⟩

/-- A read after a write to the same place gives the value written. -/
@[simp] theorem Assoc.find_insert_self {β : Type} (k : Nat) (v : β) (m : List (Nat × β)) :
    Assoc.find k (Assoc.insert k v m) = some v := by
  induction m with
  | nil => simp [Assoc.insert, Assoc.find]
  | cons x rest ih =>
    obtain ⟨j, u⟩ := x
    unfold Assoc.insert
    split
    · simp [Assoc.find]
    · split
      · simp [Assoc.find]
      · next hne => simp [Assoc.find, ih, Ne.symm hne]

/-- A write leaves every other place alone. -/
theorem Assoc.find_insert_ne {β : Type} {k j : Nat} (h : j ≠ k) (v : β) (m : List (Nat × β)) :
    Assoc.find j (Assoc.insert k v m) = Assoc.find j m := by
  induction m with
  | nil => simp [Assoc.insert, Assoc.find, Ne.symm h]
  | cons x rest ih =>
    obtain ⟨i, u⟩ := x
    unfold Assoc.insert
    split
    · simp [Assoc.find, Ne.symm h]
    · split
      · next hk => subst hk; simp [Assoc.find, Ne.symm h]
      · simp [Assoc.find, ih]

/-! ### Output memory -/

/-- The output port keeps the canonical form. -/
theorem outBlock_wf (n : Nat) (vs : List Flt) {out : List (Nat × Flt)} (h : Memory.wf out = true) :
    Memory.wf (outBlock n vs out) = true := by
  induction vs generalizing n out with
  | nil => exact h
  | cons v vs ih => exact ih (n + 1) (Assoc.insert_wf n v h)

/-- A block leaves the words below it alone. -/
theorem outBlock_below {a n : Nat} (h : a < n) (vs : List Flt) (out : List (Nat × Flt)) :
    outRead a (outBlock n vs out) = outRead a out := by
  induction vs generalizing n out with
  | nil => rfl
  | cons v vs ih =>
    show outRead a (outBlock (n + 1) vs (outWrite n v out)) = _
    rw [ih (by omega)]
    exact Assoc.find_insert_ne (by omega) v out

/-- A block leaves the words after it alone. -/
theorem outBlock_above {a n : Nat} {vs : List Flt} (h : n + vs.length ≤ a) (out : List (Nat × Flt)) :
    outRead a (outBlock n vs out) = outRead a out := by
  induction vs generalizing n out with
  | nil => rfl
  | cons v vs ih =>
    simp only [List.length_cons] at h
    show outRead a (outBlock (n + 1) vs (outWrite n v out)) = _
    rw [ih (by omega)]
    exact Assoc.find_insert_ne (by omega) v out

/-- Word `n + j` of a block is its value number `j` (20_memory.md R76). -/
theorem outBlock_read {n j : Nat} {vs : List Flt} (h : j < vs.length) (out : List (Nat × Flt)) :
    outRead (n + j) (outBlock n vs out) = some (vs[j]) := by
  induction vs generalizing n j out with
  | nil => simp at h
  | cons v vs ih =>
    show outRead (n + j) (outBlock (n + 1) vs (outWrite n v out)) = _
    cases j with
    | zero =>
      rw [outBlock_below (by omega)]
      exact Assoc.find_insert_self n v out
    | succ j =>
      have := ih (n := n + 1) (j := j) (by simpa using h) (outWrite n v out)
      rw [show n + (j + 1) = n + 1 + j by omega, this]
      rfl

/-! ### Wavetables -/

/-- Installing or removing a wavetable keeps the canonical form. -/
theorem Tables.put_wf (f : Fmt) (id : U32) (words : List Flt) {tables : List (Nat × List Flt)}
    (h : Tables.wf tables = true) : Tables.wf (Tables.put f id words tables) = true := by
  have hid := id.isLt
  simp only [Tables.wf, Bool.and_eq_true, List.all_eq_true] at h ⊢
  unfold Tables.put
  split
  · exact h
  · next h0 =>
    split
    · exact ⟨Assoc.erase_wf _ h.1, fun e he => h.2 e (Assoc.mem_erase he)⟩
    · next hw =>
      refine ⟨Assoc.insert_wf _ _ h.1, fun e he => ?_⟩
      rcases Assoc.mem_insert he with he | he
      · subst he
        have hne : words ≠ [] := by simpa using hw
        simp only [decide_eq_true_eq, Bool.not_eq_true', List.isEmpty_eq_false_iff]
        exact ⟨⟨Nat.pos_of_ne_zero h0, hid⟩, by simpa using hne⟩
      · exact h.2 e he

/-- A table the host installs is the one the port answers (20_memory.md R74). -/
theorem tableLen_put (f : Fmt) (id : U32) (words : List Flt) (tables : List (Nat × List Flt)) (h0 : id.toNat ≠ 0)
    (hw : words ≠ []) : tableLen (Tables.put f id words tables) id.toNat = words.length := by
  have := id.isLt
  have h2 : ¬ 4294967296 ≤ id.toNat := by omega
  simp [tableLen, Tables.put, h0, hw, h2]

/-- What TableRead can answer: a word of a table whose length is still the captured one, else a free value. -/
theorem tableRead_cases (f : Fmt) (tables : List (Nat × List Flt)) (id len i free : Nat) :
    (tableLen tables id = len ∧ (tableRead f tables id len i free).2 = free)
      ∨ (tableLen tables id ≠ len ∧ (tableRead f tables id len i free).2 = free + 1) := by
  unfold tableRead
  split
  · next h => exact .inl ⟨h, rfl⟩
  · next h => exact .inr ⟨h, rfl⟩

/-- The host's memories are canonical at reset. -/
theorem State.reset_memory : Memory.wf State.reset.out = true ∧ Tables.wf State.reset.tables = true := by decide

end Sys2Proof.Machine
end

