-- ==== Sys2Proof/Laws/After.lean ====
section
/-! SUPPORT. The operations that start, warn and abandon a command, in the one form the statements use: State.after. -/

namespace Sys2Proof.Machine

@[simp] theorem State.after_params (s : State) (b : U32) : (s.after b).params = s.params := rfl
@[simp] theorem State.after_sr (s : State) (b : U32) : (s.after b).sr = s.sr := rfl
@[simp] theorem State.after_kr (s : State) (b : U32) : (s.after b).kr = s.kr := rfl
@[simp] theorem State.after_cmd (s : State) (b : U32) : (s.after b).cmd = s.cmd := rfl
@[simp] theorem State.after_a0 (s : State) (b : U32) : (s.after b).a0 = s.a0 := rfl
@[simp] theorem State.after_a1 (s : State) (b : U32) : (s.after b).a1 = s.a1 := rfl
@[simp] theorem State.after_a2 (s : State) (b : U32) : (s.after b).a2 = s.a2 := rfl
@[simp] theorem State.after_a3 (s : State) (b : U32) : (s.after b).a3 = s.a3 := rfl
@[simp] theorem State.after_iarg (s : State) (b : U32) : (s.after b).iarg = s.iarg := rfl
@[simp] theorem State.after_y (s : State) (b : U32) : (s.after b).y = s.y := rfl
@[simp] theorem State.after_units (s : State) (b : U32) : (s.after b).units = s.units := rfl
@[simp] theorem State.after_models (s : State) (b : U32) : (s.after b).models = s.models := rfl
@[simp] theorem State.after_tables (s : State) (b : U32) : (s.after b).tables = s.tables := rfl
@[simp] theorem State.after_out (s : State) (b : U32) : (s.after b).out = s.out := rfl
@[simp] theorem State.after_noiseIn (s : State) (b : U32) : (s.after b).noiseIn = s.noiseIn := rfl
@[simp] theorem State.after_free (s : State) (b : U32) : (s.after b).free = s.free := rfl
@[simp] theorem State.after_pending (s : State) (b : U32) : (s.after b).pending = s.pending := rfl
theorem State.after_status (s : State) (b : U32) : (s.after b).status = (s.status &&& ~~~0x8000#32) ||| b := rfl

theorem State.start_warn_eq_after (s : State) (w : U32) : s.start.warn w = s.after w := rfl

theorem State.start_eq_after (s : State) : s.start = s.after 0#32 := by
  unfold State.after
  rw [BitVec.or_zero]
  rfl

theorem State.abandon_eq_after (s : State) (w e : U32) : s.abandon w e = s.after (w ||| e ||| 0x8000#32) := rfl

theorem State.illegal_eq_after (s : State) : s.illegal = s.after 0x8020#32 := rfl

/-- The four error bits a rule can raise, each with CMD_FAIL. -/
theorem State.abandon_unsized (s : State) : s.abandon 0 errUnsized = s.after 0x8008#32 := rfl
theorem State.abandon_notable (s : State) : s.abandon 0 errNotable = s.after 0x8010#32 := rfl
theorem State.abandon_state (s : State) : s.abandon 0 errState = s.after 0x8040#32 := rfl
theorem State.abandon_operand (s : State) : s.abandon 0 errOperand = s.after 0x8080#32 := rfl

end Sys2Proof.Machine
end

