-- ==== Sys2Proof/Laws/Float.lean ====
section
/-! SUPPORT. Lemmas of FLT arithmetic that the statements about lines, tables and envelopes rest on. -/

namespace Sys2Proof
namespace Fmt

@[simp] theorem mag_zero (f : Fmt) : f.mag Flt.zero = 0 := by simp [mag]
@[simp] theorem sign_zero (f : Fmt) : f.sign Flt.zero = false := by cases f <;> rfl
@[simp] theorem isNaN_zero (f : Fmt) : f.isNaN Flt.zero = false := by cases f <;> rfl
@[simp] theorem isFinite_zero (f : Fmt) : f.isFinite Flt.zero = true := by cases f <;> rfl
@[simp] theorem scaled_zero (f : Fmt) : f.scaled 0 = 0 := by simp [scaled]
@[simp] theorem value_zero (f : Fmt) : f.value Flt.zero = 0 := by simp [value]
@[simp] theorem key_zero (f : Fmt) : f.key Flt.zero = 0 := by simp [key]
@[simp] theorem floor_zero (f : Fmt) : f.floor Flt.zero = 0 := by simp [floor]
@[simp] theorem trunc_zero (f : Fmt) : f.trunc Flt.zero = 0 := by simp [trunc]
@[simp] theorem isFinite_one (f : Fmt) : f.isFinite f.one = true := by cases f <;> decide +kernel
@[simp] theorem isNaN_one (f : Fmt) : f.isNaN f.one = false := by cases f <;> decide +kernel

/-- The two predicates that are not finite exclude each other and finiteness. -/
theorem isNaN_of_isFinite {f : Fmt} {x : Flt} (h : f.isFinite x = true) : f.isNaN x = false := by
  simp only [isFinite, isNaN, decide_eq_true_eq, decide_eq_false_iff_not] at *
  omega

theorem isInf_of_isFinite {f : Fmt} {x : Flt} (h : f.isFinite x = true) : f.isInf x = false := by
  simp only [isFinite, isInf, decide_eq_true_eq, decide_eq_false_iff_not] at *
  omega

/-- The magnitude bits a datum was packed from. -/
theorem mag_pack (f : Fmt) (s : Bool) {m : Nat} (h : m < 2 ^ (f.width - 1)) : f.mag (f.pack s m) = m := by
  cases f <;> cases s <;> simp [mag, pack, width] at * <;> omega

/-- A free NaN is a NaN, whatever its sign and payload. -/
theorem isNaN_nan (f : Fmt) (op : Nat) (x y : Flt) : f.isNaN (f.nan op x y) = true := by
  have hz := Nat.mod_lt (Config.nanBits op x y).toNat (Nat.two_pow_pos (f.prec - 2))
  unfold nan isNaN
  simp only
  rw [mag_pack, decide_eq_true_eq]
  · have := Nat.two_pow_pos (f.prec - 2)
    omega
  · generalize (Config.nanBits op x y).toNat % 2 ^ (f.prec - 2) = z at hz
    cases f <;> simp [infMag, prec, width, expBits] at * <;> omega

/-- A NaN operand makes a NaN. -/
theorem isNaN_add_left {f : Fmt} {x : Flt} (h : f.isNaN x = true) (y : Flt) : f.isNaN (f.add x y) = true := by
  simp [add, h, isNaN_nan]

theorem isNaN_mul_left {f : Fmt} {x : Flt} (h : f.isNaN x = true) (y : Flt) : f.isNaN (f.mul x y) = true := by
  simp [mul, h, isNaN_nan]

/-- `gtNat` compares exact values. -/
theorem gtNat_iff {f : Fmt} {x : Flt} (h : f.isFinite x = true) (n : Nat) :
    f.gtNat x n = true ↔ ((n * 2 ^ f.unit : Nat) : Int) < f.value x := by
  simp only [gtNat, isNaN_of_isFinite h, isInf_of_isFinite h, value]
  have h0 : 0 ≤ ((n * 2 ^ f.unit : Nat) : Int) := Int.natCast_nonneg _
  cases f.sign x
  · simp only [Bool.not_false, Bool.true_and, Bool.false_or, decide_eq_true_eq, Bool.false_eq_true, if_false, Int.ofNat_lt]
  · simp only [Bool.not_true, Bool.and_false, Bool.false_and, Bool.false_eq_true, if_true, false_iff]
    omega

/-- `x < y` on data that are numbers is the order of their keys. -/
theorem lt_iff {f : Fmt} {x y : Flt} : f.lt x y = true ↔ f.isNaN x = false ∧ f.isNaN y = false ∧ f.key x < f.key y := by
  simp [lt, and_assoc]

theorem le_iff {f : Fmt} {x y : Flt} : f.le x y = true ↔ f.isNaN x = false ∧ f.isNaN y = false ∧ f.key x ≤ f.key y := by
  simp [le, and_assoc]

theorem lt_irrefl (f : Fmt) (x : Flt) : f.lt x x = false := by simp [lt]

theorem lt_asymm {f : Fmt} {x y : Flt} (h : f.lt x y = true) : f.lt y x = false := by
  rw [Bool.eq_false_iff]
  intro h'
  have h1 := (lt_iff.mp h).2.2
  have h2 := (lt_iff.mp h').2.2
  omega

/-- +0 is in [0, m) for every positive m. -/
theorem inRange_zero (f : Fmt) {m : Nat} (h : 0 < m) : f.inRange Flt.zero m = true := by
  have h2 : 0 < m * 2 ^ f.unit := Nat.mul_pos h (Nat.two_pow_pos _)
  simp [inRange, h2]

/-- The wrapped phase or position is in [0, m) (00_scope.md R11). -/
theorem wrap_inRange (f : Fmt) (p : Flt) {m : Nat} (h : 0 < m) : f.inRange (f.wrap p m) m = true := by
  have key (v : Flt) : f.inRange (if f.inRange v m then v else Flt.zero) m = true := by
    split
    · next hr => exact hr
    · exact inRange_zero f h
  exact key _

/-- The floor of a datum in [0, m) is an index below m. -/
theorem floor_lt_of_inRange {f : Fmt} {v : Flt} {m : Nat} (h : f.inRange v m = true) :
    0 ≤ f.floor v ∧ (f.floor v).toNat < m := by
  simp only [inRange, Bool.and_eq_true, Bool.not_eq_true', decide_eq_true_eq] at h
  obtain ⟨⟨hf, hs⟩, hlt⟩ := h
  have hv : f.value v = (f.scaled (f.mag v) : Int) := by simp [value, hs]
  have hpos : 0 < 2 ^ f.unit := Nat.two_pow_pos _
  have hfl : f.floor v = ((f.scaled (f.mag v) / 2 ^ f.unit : Nat) : Int) := by
    simp [floor, hf, hv]
  rw [hfl]
  refine ⟨Int.natCast_nonneg _, ?_⟩
  rw [Int.toNat_natCast]
  exact Nat.div_lt_of_lt_mul (by rw [Nat.mul_comm]; exact hlt)

/-- The read index a wrapped position gives is below the capacity. -/
theorem floor_wrap_lt (f : Fmt) (p : Flt) {m : Nat} (h : 0 < m) : (f.floor (f.wrap p m)).toNat < m :=
  (floor_lt_of_inRange (wrap_inRange f p h)).2

/-- A clamped value is one of its bounds or was between them. -/
theorem clamp_cases (f : Fmt) (v lo hi : Flt) :
    f.clamp v lo hi = lo ∨ f.clamp v lo hi = hi
      ∨ (f.clamp v lo hi = v ∧ f.lt v lo = false ∧ f.lt hi v = false) := by
  unfold clamp
  split
  · exact .inl rfl
  · next h1 =>
    split
    · exact .inr (.inl rfl)
    · next h2 => exact .inr (.inr ⟨rfl, by simpa using h1, by simpa using h2⟩)

end Fmt
end Sys2Proof
end

