-- ==== Sys2Proof/Laws/Lines.lean ====
section
/-! SUPPORT. Every operation of a delay line or a vibrato oscillator keeps its invariant (10_state.md R38, R48). -/

namespace Sys2Proof.Machine

theorem backFrom_lt (w : Nat) (d : Int) {cap : Nat} (h : 0 < cap) : backFrom w d cap < cap := by
  have h1 := Int.emod_nonneg ((w : Int) - d) (b := (cap : Int)) (by omega)
  have h2 := Int.emod_lt_of_pos ((w : Int) - d) (b := (cap : Int)) (by omega)
  unfold backFrom
  omega

/-! ### Integer line -/

theorem Dln.cfg_wf {p : Params} {n : Nat} {w : U32} {u : Dln} (h : Dln.cfg p n = .ok w u) :
    u.Wf p.maxCap ∧ u.cap = n + 1 ∧ w = 0 := by
  unfold Dln.cfg at h
  split at h
  · cases h
  · cases h
    exact ⟨⟨by simp, by show n + 1 ≤ _; omega, by simp, fun _ => ⟨by simp, backFrom_lt _ _ (by omega)⟩⟩, rfl, rfl⟩

theorem Dln.setdel_wf {f : Fmt} {lag : Flt} {mc : Nat} {u u' : Dln} {w : U32} (hu : u.Wf mc)
    (h : u.setdel f lag = .ok w u') : u'.Wf mc ∧ u'.cap = u.cap ∧ 0 < u.cap := by
  obtain ⟨hc, h⟩ := Res.require_ok_iff.mp h
  have hc : 0 < u.cap := by simpa using hc
  obtain ⟨d, -, rfl⟩ := Res.map_ok_iff.mp h
  exact ⟨⟨hu.1, hu.2.1, fun h => absurd h (by show ¬ u.cap = 0; omega), fun _ => ⟨(hu.2.2.2 hc).1, backFrom_lt _ _ hc⟩⟩, rfl, hc⟩

theorem Dln.tick_wf {mc : Nat} {u : Dln} (x : Flt) (hu : u.Wf mc) (hc : 0 < u.cap) :
    (u.tick x).2.Wf mc ∧ (u.tick x).2.cap = u.cap :=
  ⟨⟨by simpa [Dln.tick] using hu.1, hu.2.1, fun h => absurd h (Nat.ne_of_gt hc),
    fun h => ⟨Nat.mod_lt _ h, Nat.mod_lt _ h⟩⟩, rfl⟩

/-! ### All-pass line -/

/-- Placing the read index keeps a sized line well formed (R142). -/
theorem Dla.place_wf {f : Fmt} (l : Flt) {mc : Nat} {u : Dla} (hb : u.buf.length = u.cap) (hm : u.cap ≤ mc)
    (hc : 0 < u.cap) (hw : u.w < u.cap) : (u.place f l).Wf mc ∧ (u.place f l).cap = u.cap := by
  refine ⟨⟨hb, hm, fun h => absurd h (Nat.ne_of_gt hc), fun _ => ⟨hw, ?_⟩⟩, rfl⟩
  unfold Dla.place
  simp only
  split
  · exact Nat.mod_lt _ hc
  · exact Fmt.floor_wrap_lt f _ hc

theorem Dla.cfg_wf {p : Params} {n : Nat} {w : U32} {u u' : Dla} (h : u.cfg p n = .ok w u') :
    u'.Wf p.maxCap ∧ u'.cap = n + 1 ∧ w = 0 := by
  unfold Dla.cfg at h
  split at h
  · cases h
  · next hn =>
    cases h
    obtain ⟨h1, h2⟩ := Dla.place_wf (f := p.fmt) (p.fmt.fromNatDown n) (mc := p.maxCap)
      (u := { u with cap := n + 1, w := 0, buf := List.replicate (n + 1) Flt.zero, lastIn := Flt.zero, last := Flt.zero })
      (by simp) (by show n + 1 ≤ _; omega) (by simp) (by simp)
    exact ⟨h1, h2, rfl⟩

theorem Dla.setdel_wf {f : Fmt} {lag : Flt} {mc : Nat} {u u' : Dla} {w : U32} (hu : u.Wf mc)
    (h : u.setdel f lag = .ok w u') : u'.Wf mc ∧ u'.cap = u.cap ∧ 0 < u.cap := by
  obtain ⟨hc, h⟩ := Res.require_ok_iff.mp h
  have hc : 0 < u.cap := by simpa using hc
  obtain ⟨l, -, rfl⟩ := Res.map_ok_iff.mp h
  obtain ⟨h1, h2⟩ := Dla.place_wf (f := f) l hu.1 hu.2.1 hc (hu.2.2.2 hc).1
  exact ⟨h1, h2, hc⟩

theorem Dla.tick_wf {f : Fmt} {mc : Nat} {u : Dla} (x : Flt) (hu : u.Wf mc) (hc : 0 < u.cap) :
    (u.tick f x).2.Wf mc ∧ (u.tick f x).2.cap = u.cap :=
  ⟨⟨by simpa [Dla.tick] using hu.1, hu.2.1, fun h => absurd h (Nat.ne_of_gt hc),
    fun h => ⟨Nat.mod_lt _ h, Nat.mod_lt _ h⟩⟩, rfl⟩

/-! ### Linear line -/

/-- Placing the read index keeps a sized line well formed (R152). -/
theorem Dll.place_wf {f : Fmt} (l : Flt) {mc : Nat} {u : Dll} (hb : u.buf.length = u.cap) (hm : u.cap ≤ mc)
    (hc : 0 < u.cap) (hw : u.w < u.cap) : (u.place f l).Wf mc ∧ (u.place f l).cap = u.cap :=
  ⟨⟨hb, hm, fun h => absurd h (Nat.ne_of_gt hc), fun _ => ⟨hw, Fmt.floor_wrap_lt f _ hc⟩⟩, rfl⟩

theorem Dll.cfg_wf {p : Params} {n : Nat} {w : U32} {u u' : Dll} (h : u.cfg p n = .ok w u') :
    u'.Wf p.maxCap ∧ u'.cap = n + 1 ∧ w = 0 := by
  unfold Dll.cfg at h
  split at h
  · cases h
  · next hn =>
    cases h
    obtain ⟨h1, h2⟩ := Dll.place_wf (f := p.fmt) (p.fmt.fromNatDown n) (mc := p.maxCap)
      (u := { u with cap := n + 1, w := 0, buf := List.replicate (n + 1) Flt.zero, last := Flt.zero })
      (by simp) (by show n + 1 ≤ _; omega) (by simp) (by simp)
    exact ⟨h1, h2, rfl⟩

theorem Dll.setdel_wf {f : Fmt} {lag : Flt} {mc : Nat} {u u' : Dll} {w : U32} (hu : u.Wf mc)
    (h : u.setdel f lag = .ok w u') : u'.Wf mc ∧ u'.cap = u.cap ∧ 0 < u.cap := by
  obtain ⟨hc, h⟩ := Res.require_ok_iff.mp h
  have hc : 0 < u.cap := by simpa using hc
  obtain ⟨l, -, rfl⟩ := Res.map_ok_iff.mp h
  obtain ⟨h1, h2⟩ := Dll.place_wf (f := f) l hu.1 hu.2.1 hc (hu.2.2.2 hc).1
  exact ⟨h1, h2, hc⟩

theorem Dll.tick_wf {f : Fmt} {mc : Nat} {u : Dll} (x : Flt) (hu : u.Wf mc) (hc : 0 < u.cap) :
    (u.tick f x).2.Wf mc ∧ (u.tick f x).2.cap = u.cap :=
  ⟨⟨by simpa [Dll.tick] using hu.1, hu.2.1, fun h => absurd h (Nat.ne_of_gt hc),
    fun h => ⟨Nat.mod_lt _ h, Nat.mod_lt _ h⟩⟩, rfl⟩

/-! ### Vibrato -/

theorem Vib.settab_wf {c : Ctx} {id : Nat} {w : U32} {u u' : Vib} (h : u.settab c id = .ok w u') :
    u'.Wf c.f ∧ 0 < u'.len ∧ w = 0 := by
  obtain ⟨hc, h⟩ := Res.require_ok_iff.mp h
  have hl : 0 < tableLen c.tables id := by
    have : tableLen c.tables id ≠ 0 := by simpa using hc
    omega
  cases h
  exact ⟨⟨fun _ => rfl, fun h => Fmt.inRange_zero _ h⟩, hl, rfl⟩

theorem Vib.setfreq_wf {c : Ctx} {hz : Flt} {w : U32} {u u' : Vib} (hu : u.Wf c.f) (h : u.setfreq c hz = .ok w u') :
    u'.Wf c.f ∧ u'.len = u.len ∧ w = 0 := by
  obtain ⟨-, h⟩ := Res.require_ok_iff.mp h
  obtain ⟨-, h⟩ := Res.require_ok_iff.mp h
  cases h
  exact ⟨hu, rfl, rfl⟩

theorem Vib.tick_wf {c : Ctx} {w : U32} {u : Vib} {fx : Fx} {r : Flt × Vib × Fx} (h : u.tick c fx = .ok w r) :
    r.2.1.Wf c.f ∧ r.2.1.len = u.len ∧ 0 < u.len ∧ w = 0 := by
  obtain ⟨hc, h⟩ := Res.require_ok_iff.mp h
  have hl : 0 < u.len := by simpa using hc
  cases h
  exact ⟨⟨fun h => absurd h (Nat.ne_of_gt hl), fun h => Fmt.wrap_inRange _ _ h⟩, rfl, hl, rfl⟩

end Sys2Proof.Machine
end

