-- ==== Sys2Proof/Laws/Models.lean ====
section
/-! SUPPORT. The bound FMAX_m, the dirty check and the control update where nothing changed (44_models_common.md R294, R280, R284),
and the draws and vibrato ticks of a model's private units in the form the statements use. -/

namespace Sys2Proof.Machine

/-- FMAX_m of a model as the statements write it (R294; 45_models.md R300). -/
theorem windFmax_ctx (s : State) (b : FmaxConst) : windFmax b s.ctx = noteFmax s b := by cases b <;> rfl

/-- A control whose cache equals it has not changed. -/
theorem Hdr.changed_false {h : Hdr} {x : Fin 16} (hx : h.cache.get x = h.ctl.get x) : h.changed false x = false := by
  simp [Hdr.changed, hx]

/-- Every control counts as changed in a forced update. -/
@[simp] theorem Hdr.changed_all (h : Hdr) (x : Fin 16) : h.changed true x = true := rfl

theorem vector_set_get {v : Vector Flt 16} {x : Fin 16} {a : Flt} (h : v.get x = a) : v.set x.val a x.isLt = v := by
  apply Vector.ext
  intro i hi
  rw [Vector.getElem_set]
  split
  · next h2 => subst h2; exact h.symm
  · rfl

theorem refresh_fold {ctl v : Vector Flt 16} {ks : List (Fin 16)} (h : ∀ x ∈ ks, v.get x = ctl.get x) :
    ks.foldl (fun v x => v.set x.val (ctl.get x) x.isLt) v = v := by
  induction ks generalizing v with
  | nil => rfl
  | cons x ks ih =>
    rw [List.foldl_cons, vector_set_get (h x List.mem_cons_self)]
    exact ih fun y hy => h y (List.mem_cons_of_mem _ hy)

/-- Refreshing clean caches changes nothing. -/
theorem Hdr.refresh_clean {h : Hdr} {ks : List (Fin 16)} (hk : ∀ x ∈ ks, h.cache.get x = h.ctl.get x) : h.refresh ks = h := by
  unfold Hdr.refresh
  rw [refresh_fold hk]

/-- What `refresh` leaves alone. -/
@[simp] theorem Hdr.refresh_ctl (h : Hdr) (ks : List (Fin 16)) : (h.refresh ks).ctl = h.ctl := rfl
@[simp] theorem Hdr.refresh_mstate (h : Hdr) (ks : List (Fin 16)) : (h.refresh ks).mstate = h.mstate := rfl
@[simp] theorem Hdr.refresh_counter (h : Hdr) (ks : List (Fin 16)) : (h.refresh ks).counter = h.counter := rfl
@[simp] theorem Hdr.refresh_minF (h : Hdr) (ks : List (Fin 16)) : (h.refresh ks).minF = h.minF := rfl
@[simp] theorem Hdr.refresh_iCtl (h : Hdr) (ks : List (Fin 16)) : (h.refresh ks).iCtl = h.iCtl := rfl

theorem refresh_fold_get {ctl v : Vector Flt 16} {ks : List (Fin 16)} (x : Fin 16) :
    (ks.foldl (fun v x => v.set x.val (ctl.get x) x.isLt) v).get x = if x ∈ ks then ctl.get x else v.get x := by
  induction ks generalizing v with
  | nil => simp
  | cons y ks ih =>
    rw [List.foldl_cons, ih]
    by_cases hx : x ∈ ks
    · simp [hx]
    · by_cases hy : x = y
      · subst hy
        rw [if_neg hx, if_pos List.mem_cons_self]
        exact Vector.getElem_set_self _
      · have hne : y.val ≠ x.val := fun h => hy (Fin.ext h.symm)
        rw [if_neg hx, if_neg (by simp [hx, hy])]
        exact Vector.getElem_set_ne _ _ hne

/-- The caches after an update: the controls listed, the others as before (R280). -/
theorem Hdr.refresh_cache_get (h : Hdr) (ks : List (Fin 16)) (x : Fin 16) :
    (h.refresh ks).cache.get x = if x ∈ ks then h.ctl.get x else h.cache.get x := refresh_fold_get x

variable {M : Type}

/-- What a RENDER does before its samples where no release fires and no control changed: it counts down. -/
theorem renderPrep_steady {k : ModelKit M} {c : Ctx} {m : M} {fx : Fx} (h1 : (k.hdr m).counter ≠ 1)
    (hrec : k.recompute c false (k.setHdr { k.hdr m with counter := (k.hdr m).counter - 1 } m) fx
      = (k.setHdr { k.hdr m with counter := (k.hdr m).counter - 1 } m, fx))
    (hc : ∀ x ∈ k.kRate, (k.hdr m).cache.get x = (k.hdr m).ctl.get x) (hs : ∀ h m, k.hdr (k.setHdr h m) = h)
    (hs2 : ∀ h h' m, k.setHdr h (k.setHdr h' m) = k.setHdr h m) :
    renderPrep k c m fx = (k.setHdr { k.hdr m with counter := (k.hdr m).counter - 1 } m, fx) := by
  have h0 : ¬ (k.hdr m).counter - 1 = 0 := by omega
  unfold renderPrep releaseStep
  simp only [h0, if_false]
  unfold controlUpdate
  rw [hrec]
  simp only [hs, hs2]
  rw [Hdr.refresh_clean (by simpa using hc)]

/-- The tick of a private vibrato that has a table. -/
theorem Vib.tickPrivate_eq (s : State) (u : Vib) (fx : Fx) (h : 0 < u.len) (hs : fx.strict = false) :
    u.tickPrivate s.ctx fx =
      ((vibStep s u fx.free).1, (vibStep s u fx.free).2.1, { fx with free := (vibStep s u fx.free).2.2 }) := by
  simp [Vib.tickPrivate, Vib.tick, Res.require, h, vibStep, Fx.warn, Fx.stopped, hs]

/-- A draw at the start of a command. -/
theorem draw_eq (s : State) :
    draw s.params.fmt (s.fx false) =
      ((drawStep s).1, { s.fx false with noise := (drawStep s).2.1, free := (drawStep s).2.2 }) := by
  unfold draw drawStep legalDraw
  simp only [State.fx]
  cases s.noiseIn <;> rfl

end Sys2Proof.Machine
end

