-- ==== Sys2Proof/Laws/PerInstr.lean ====
section
/-! SUPPORT. Statements made for every instruction, one lemma per constructor: the family RowWord says that the word of a
well-formed command matches its row of the opcode table and carries its instance number. -/

namespace Sys2Proof.Laws

/-- The `match` word of a command's row of the opcode table, without the INST field. -/
def rowMatch : Instr → U32
  | .sysNop => 0x00000000#32
  | .sysClrstat => 0x00400000#32
  | .sysSreset => 0x00800000#32
  | .sysSetctx => 0x00c00000#32
  | .dlnCfg _ => 0x04000000#32
  | .dlnSetdel _ => 0x04400000#32
  | .dlnTick _ => 0x04800000#32
  | .dlnLast _ => 0x04c00000#32
  | .dlaCfg _ => 0x08000000#32
  | .dlaSetdel _ => 0x08400000#32
  | .dlaTick _ => 0x08800000#32
  | .dlaLast _ => 0x08c00000#32
  | .dllCfg _ => 0x0c000000#32
  | .dllSetdel _ => 0x0c400000#32
  | .dllTick _ => 0x0c800000#32
  | .dllLast _ => 0x0cc00000#32
  | .biqSetfr _ => 0x10000000#32
  | .biqSetegz _ => 0x10400000#32
  | .biqSetgain _ => 0x10800000#32
  | .biqTick _ => 0x10c00000#32
  | .biqClear _ => 0x11000000#32
  | .biqLast _ => 0x11400000#32
  | .opoleSetgain _ => 0x14000000#32
  | .opoleSetcoef _ => 0x14400000#32
  | .opoleTick _ => 0x14800000#32
  | .opoleLast _ => 0x14c00000#32
  | .ozeroSetgain _ => 0x18000000#32
  | .ozeroSetcoef _ => 0x18400000#32
  | .ozeroTick _ => 0x18800000#32
  | .ozeroLast _ => 0x18c00000#32
  | .dcbTick _ => 0x1c000000#32
  | .dcbLast _ => 0x1c400000#32
  | .adsrSettimes _ => 0x20000000#32
  | .adsrSettarget _ => 0x20400000#32
  | .adsrSetatk _ => 0x20800000#32
  | .adsrSetrel _ => 0x20c00000#32
  | .adsrKeyon _ => 0x21000000#32
  | .adsrKeyoff _ => 0x21400000#32
  | .adsrTick _ => 0x21800000#32
  | .adsrLast _ => 0x21c00000#32
  | .envSetrate _ => 0x24000000#32
  | .envSettarget _ => 0x24400000#32
  | .envKeyon _ => 0x24800000#32
  | .envKeyoff _ => 0x24c00000#32
  | .envTick _ => 0x25000000#32
  | .envLast _ => 0x25400000#32
  | .bowSetslope _ => 0x28000000#32
  | .bowLookup _ => 0x28400000#32
  | .reedSetoffset _ => 0x2c000000#32
  | .reedSetslope _ => 0x2c400000#32
  | .reedLookup _ => 0x2c800000#32
  | .jetLookup _ => 0x30000000#32
  | .noiseTick _ => 0x34000000#32
  | .noiseLast _ => 0x34400000#32
  | .vibSettab _ => 0x38000000#32
  | .vibSetfreq _ => 0x38400000#32
  | .vibTick _ => 0x38800000#32
  | .vibLast _ => 0x38c00000#32
  | .barSetctl _ => 0x40000000#32
  | .barInit _ => 0x40400000#32
  | .barRender _ => 0x40800000#32
  | .barRelease _ => 0x40c00000#32
  | .clarSetctl _ => 0x44000000#32
  | .clarInit _ => 0x44400000#32
  | .clarRender _ => 0x44800000#32
  | .clarRelease _ => 0x44c00000#32
  | .fluteSetctl _ => 0x48000000#32
  | .fluteInit _ => 0x48400000#32
  | .fluteRender _ => 0x48800000#32
  | .fluteRelease _ => 0x48c00000#32
  | .bowedSetctl _ => 0x4c000000#32
  | .bowedInit _ => 0x4c400000#32
  | .bowedRender _ => 0x4c800000#32
  | .bowedRelease _ => 0x4cc00000#32
  | .brassSetctl _ => 0x50000000#32
  | .brassInit _ => 0x50400000#32
  | .brassRender _ => 0x50800000#32
  | .brassRelease _ => 0x50c00000#32

/-- The `mask` of a row: SYS rows fix every bit, unit rows leave INST free (30_encoding.md R107). -/
def rowMask (i : Instr) : U32 := if i.cls = 0 then 0xffffffff#32 else 0xffc0ffff#32

namespace RowWord

/-- The word of a well-formed command matches its row, and its INST field is the instance number (R101, R107). -/
def Statement (i : Instr) : Prop :=
  i.wellFormed = true → encode i &&& rowMask i = rowMatch i ∧ wordInst (encode i) = i.inst

/-- The fields of a word of the table's classes and functions, for every instance number. -/
theorem fields :
    ∀ c < 21, ∀ fn < 8, ∀ n < 64,
      BitVec.ofNat 32 (c * 2 ^ 26 + fn * 2 ^ 22 + n * 2 ^ 16) &&& 0xffc0ffff#32 = BitVec.ofNat 32 (c * 2 ^ 26 + fn * 2 ^ 22)
        ∧ wordInst (BitVec.ofNat 32 (c * 2 ^ 26 + fn * 2 ^ 22 + n * 2 ^ 16)) = n := by
  decide +kernel

theorem unit (c fn : Nat) (hc : c < 21) (hf : fn < 8) {i : Instr} (h : i.wellFormed = true) (h1 : i.cls = c) (h2 : i.fn = fn)
    (h0 : c ≠ 0) (hm : rowMatch i = BitVec.ofNat 32 (c * 2 ^ 26 + fn * 2 ^ 22)) :
    encode i &&& rowMask i = rowMatch i ∧ wordInst (encode i) = i.inst := by
  have hi : i.inst < 64 := of_decide_eq_true h
  have hk : rowMask i = 0xffc0ffff#32 := if_neg (by rw [h1]; exact h0)
  rw [hm, hk]
  unfold encode
  rw [h1, h2]
  exact fields c hc fn hf i.inst hi

theorem sysNop : Statement .sysNop := fun _ => ⟨rfl, rfl⟩
theorem sysClrstat : Statement .sysClrstat := fun _ => ⟨rfl, rfl⟩
theorem sysSreset : Statement .sysSreset := fun _ => ⟨rfl, rfl⟩
theorem sysSetctx : Statement .sysSetctx := fun _ => ⟨rfl, rfl⟩
theorem dlnCfg (n : Nat) : Statement (.dlnCfg n) := fun h => unit 1 0 (by omega) (by omega) h rfl rfl (by omega) rfl
theorem dlnSetdel (n : Nat) : Statement (.dlnSetdel n) := fun h => unit 1 1 (by omega) (by omega) h rfl rfl (by omega) rfl
theorem dlnTick (n : Nat) : Statement (.dlnTick n) := fun h => unit 1 2 (by omega) (by omega) h rfl rfl (by omega) rfl
theorem dlnLast (n : Nat) : Statement (.dlnLast n) := fun h => unit 1 3 (by omega) (by omega) h rfl rfl (by omega) rfl
theorem dlaCfg (n : Nat) : Statement (.dlaCfg n) := fun h => unit 2 0 (by omega) (by omega) h rfl rfl (by omega) rfl
theorem dlaSetdel (n : Nat) : Statement (.dlaSetdel n) := fun h => unit 2 1 (by omega) (by omega) h rfl rfl (by omega) rfl
theorem dlaTick (n : Nat) : Statement (.dlaTick n) := fun h => unit 2 2 (by omega) (by omega) h rfl rfl (by omega) rfl
theorem dlaLast (n : Nat) : Statement (.dlaLast n) := fun h => unit 2 3 (by omega) (by omega) h rfl rfl (by omega) rfl
theorem dllCfg (n : Nat) : Statement (.dllCfg n) := fun h => unit 3 0 (by omega) (by omega) h rfl rfl (by omega) rfl
theorem dllSetdel (n : Nat) : Statement (.dllSetdel n) := fun h => unit 3 1 (by omega) (by omega) h rfl rfl (by omega) rfl
theorem dllTick (n : Nat) : Statement (.dllTick n) := fun h => unit 3 2 (by omega) (by omega) h rfl rfl (by omega) rfl
theorem dllLast (n : Nat) : Statement (.dllLast n) := fun h => unit 3 3 (by omega) (by omega) h rfl rfl (by omega) rfl
theorem biqSetfr (n : Nat) : Statement (.biqSetfr n) := fun h => unit 4 0 (by omega) (by omega) h rfl rfl (by omega) rfl
theorem biqSetegz (n : Nat) : Statement (.biqSetegz n) := fun h => unit 4 1 (by omega) (by omega) h rfl rfl (by omega) rfl
theorem biqSetgain (n : Nat) : Statement (.biqSetgain n) := fun h => unit 4 2 (by omega) (by omega) h rfl rfl (by omega) rfl
theorem biqTick (n : Nat) : Statement (.biqTick n) := fun h => unit 4 3 (by omega) (by omega) h rfl rfl (by omega) rfl
theorem biqClear (n : Nat) : Statement (.biqClear n) := fun h => unit 4 4 (by omega) (by omega) h rfl rfl (by omega) rfl
theorem biqLast (n : Nat) : Statement (.biqLast n) := fun h => unit 4 5 (by omega) (by omega) h rfl rfl (by omega) rfl
theorem opoleSetgain (n : Nat) : Statement (.opoleSetgain n) := fun h => unit 5 0 (by omega) (by omega) h rfl rfl (by omega) rfl
theorem opoleSetcoef (n : Nat) : Statement (.opoleSetcoef n) := fun h => unit 5 1 (by omega) (by omega) h rfl rfl (by omega) rfl
theorem opoleTick (n : Nat) : Statement (.opoleTick n) := fun h => unit 5 2 (by omega) (by omega) h rfl rfl (by omega) rfl
theorem opoleLast (n : Nat) : Statement (.opoleLast n) := fun h => unit 5 3 (by omega) (by omega) h rfl rfl (by omega) rfl
theorem ozeroSetgain (n : Nat) : Statement (.ozeroSetgain n) := fun h => unit 6 0 (by omega) (by omega) h rfl rfl (by omega) rfl
theorem ozeroSetcoef (n : Nat) : Statement (.ozeroSetcoef n) := fun h => unit 6 1 (by omega) (by omega) h rfl rfl (by omega) rfl
theorem ozeroTick (n : Nat) : Statement (.ozeroTick n) := fun h => unit 6 2 (by omega) (by omega) h rfl rfl (by omega) rfl
theorem ozeroLast (n : Nat) : Statement (.ozeroLast n) := fun h => unit 6 3 (by omega) (by omega) h rfl rfl (by omega) rfl
theorem dcbTick (n : Nat) : Statement (.dcbTick n) := fun h => unit 7 0 (by omega) (by omega) h rfl rfl (by omega) rfl
theorem dcbLast (n : Nat) : Statement (.dcbLast n) := fun h => unit 7 1 (by omega) (by omega) h rfl rfl (by omega) rfl
theorem adsrSettimes (n : Nat) : Statement (.adsrSettimes n) := fun h => unit 8 0 (by omega) (by omega) h rfl rfl (by omega) rfl
theorem adsrSettarget (n : Nat) : Statement (.adsrSettarget n) := fun h => unit 8 1 (by omega) (by omega) h rfl rfl (by omega) rfl
theorem adsrSetatk (n : Nat) : Statement (.adsrSetatk n) := fun h => unit 8 2 (by omega) (by omega) h rfl rfl (by omega) rfl
theorem adsrSetrel (n : Nat) : Statement (.adsrSetrel n) := fun h => unit 8 3 (by omega) (by omega) h rfl rfl (by omega) rfl
theorem adsrKeyon (n : Nat) : Statement (.adsrKeyon n) := fun h => unit 8 4 (by omega) (by omega) h rfl rfl (by omega) rfl
theorem adsrKeyoff (n : Nat) : Statement (.adsrKeyoff n) := fun h => unit 8 5 (by omega) (by omega) h rfl rfl (by omega) rfl
theorem adsrTick (n : Nat) : Statement (.adsrTick n) := fun h => unit 8 6 (by omega) (by omega) h rfl rfl (by omega) rfl
theorem adsrLast (n : Nat) : Statement (.adsrLast n) := fun h => unit 8 7 (by omega) (by omega) h rfl rfl (by omega) rfl
theorem envSetrate (n : Nat) : Statement (.envSetrate n) := fun h => unit 9 0 (by omega) (by omega) h rfl rfl (by omega) rfl
theorem envSettarget (n : Nat) : Statement (.envSettarget n) := fun h => unit 9 1 (by omega) (by omega) h rfl rfl (by omega) rfl
theorem envKeyon (n : Nat) : Statement (.envKeyon n) := fun h => unit 9 2 (by omega) (by omega) h rfl rfl (by omega) rfl
theorem envKeyoff (n : Nat) : Statement (.envKeyoff n) := fun h => unit 9 3 (by omega) (by omega) h rfl rfl (by omega) rfl
theorem envTick (n : Nat) : Statement (.envTick n) := fun h => unit 9 4 (by omega) (by omega) h rfl rfl (by omega) rfl
theorem envLast (n : Nat) : Statement (.envLast n) := fun h => unit 9 5 (by omega) (by omega) h rfl rfl (by omega) rfl
theorem bowSetslope (n : Nat) : Statement (.bowSetslope n) := fun h => unit 10 0 (by omega) (by omega) h rfl rfl (by omega) rfl
theorem bowLookup (n : Nat) : Statement (.bowLookup n) := fun h => unit 10 1 (by omega) (by omega) h rfl rfl (by omega) rfl
theorem reedSetoffset (n : Nat) : Statement (.reedSetoffset n) := fun h => unit 11 0 (by omega) (by omega) h rfl rfl (by omega) rfl
theorem reedSetslope (n : Nat) : Statement (.reedSetslope n) := fun h => unit 11 1 (by omega) (by omega) h rfl rfl (by omega) rfl
theorem reedLookup (n : Nat) : Statement (.reedLookup n) := fun h => unit 11 2 (by omega) (by omega) h rfl rfl (by omega) rfl
theorem jetLookup (n : Nat) : Statement (.jetLookup n) := fun h => unit 12 0 (by omega) (by omega) h rfl rfl (by omega) rfl
theorem noiseTick (n : Nat) : Statement (.noiseTick n) := fun h => unit 13 0 (by omega) (by omega) h rfl rfl (by omega) rfl
theorem noiseLast (n : Nat) : Statement (.noiseLast n) := fun h => unit 13 1 (by omega) (by omega) h rfl rfl (by omega) rfl
theorem vibSettab (n : Nat) : Statement (.vibSettab n) := fun h => unit 14 0 (by omega) (by omega) h rfl rfl (by omega) rfl
theorem vibSetfreq (n : Nat) : Statement (.vibSetfreq n) := fun h => unit 14 1 (by omega) (by omega) h rfl rfl (by omega) rfl
theorem vibTick (n : Nat) : Statement (.vibTick n) := fun h => unit 14 2 (by omega) (by omega) h rfl rfl (by omega) rfl
theorem vibLast (n : Nat) : Statement (.vibLast n) := fun h => unit 14 3 (by omega) (by omega) h rfl rfl (by omega) rfl
theorem barSetctl (n : Nat) : Statement (.barSetctl n) := fun h => unit 16 0 (by omega) (by omega) h rfl rfl (by omega) rfl
theorem barInit (n : Nat) : Statement (.barInit n) := fun h => unit 16 1 (by omega) (by omega) h rfl rfl (by omega) rfl
theorem barRender (n : Nat) : Statement (.barRender n) := fun h => unit 16 2 (by omega) (by omega) h rfl rfl (by omega) rfl
theorem barRelease (n : Nat) : Statement (.barRelease n) := fun h => unit 16 3 (by omega) (by omega) h rfl rfl (by omega) rfl
theorem clarSetctl (n : Nat) : Statement (.clarSetctl n) := fun h => unit 17 0 (by omega) (by omega) h rfl rfl (by omega) rfl
theorem clarInit (n : Nat) : Statement (.clarInit n) := fun h => unit 17 1 (by omega) (by omega) h rfl rfl (by omega) rfl
theorem clarRender (n : Nat) : Statement (.clarRender n) := fun h => unit 17 2 (by omega) (by omega) h rfl rfl (by omega) rfl
theorem clarRelease (n : Nat) : Statement (.clarRelease n) := fun h => unit 17 3 (by omega) (by omega) h rfl rfl (by omega) rfl
theorem fluteSetctl (n : Nat) : Statement (.fluteSetctl n) := fun h => unit 18 0 (by omega) (by omega) h rfl rfl (by omega) rfl
theorem fluteInit (n : Nat) : Statement (.fluteInit n) := fun h => unit 18 1 (by omega) (by omega) h rfl rfl (by omega) rfl
theorem fluteRender (n : Nat) : Statement (.fluteRender n) := fun h => unit 18 2 (by omega) (by omega) h rfl rfl (by omega) rfl
theorem fluteRelease (n : Nat) : Statement (.fluteRelease n) := fun h => unit 18 3 (by omega) (by omega) h rfl rfl (by omega) rfl
theorem bowedSetctl (n : Nat) : Statement (.bowedSetctl n) := fun h => unit 19 0 (by omega) (by omega) h rfl rfl (by omega) rfl
theorem bowedInit (n : Nat) : Statement (.bowedInit n) := fun h => unit 19 1 (by omega) (by omega) h rfl rfl (by omega) rfl
theorem bowedRender (n : Nat) : Statement (.bowedRender n) := fun h => unit 19 2 (by omega) (by omega) h rfl rfl (by omega) rfl
theorem bowedRelease (n : Nat) : Statement (.bowedRelease n) := fun h => unit 19 3 (by omega) (by omega) h rfl rfl (by omega) rfl
theorem brassSetctl (n : Nat) : Statement (.brassSetctl n) := fun h => unit 20 0 (by omega) (by omega) h rfl rfl (by omega) rfl
theorem brassInit (n : Nat) : Statement (.brassInit n) := fun h => unit 20 1 (by omega) (by omega) h rfl rfl (by omega) rfl
theorem brassRender (n : Nat) : Statement (.brassRender n) := fun h => unit 20 2 (by omega) (by omega) h rfl rfl (by omega) rfl
theorem brassRelease (n : Nat) : Statement (.brassRelease n) := fun h => unit 20 3 (by omega) (by omega) h rfl rfl (by omega) rfl

end RowWord
end Sys2Proof.Laws
end

