-- ==== Sys2Proof/Tests/Slice0.lean ====
section
/-! SUPPORT. The model's own tests, each about one step on a small state. The expected values are the spec's examples (rule or
vector named above each theorem); FLT constants are written as binary64 bit patterns. -/

section

set_option Elab.async false

namespace Sys2Proof.Machine.Tests

/-- The next state of an answer. -/
def got (o : Out) : Option State :=
  match o with
  | .next t => some t
  | .fault _ => none
  | .refused _ => none

/-- The state the vectors of 95_test_vectors.md call reset: SR 44100, KR 4410, table 1 = [0, 1, 0, -1]; one instance of a class. -/
def s0 : State :=
  { State.resetWith (Params.standard .binary64) (Counts.each 1) with
    sr := 0x40e5888000000000#64
    kr := 0x40b13a0000000000#64
    tables := [(1, [0x0#64, 0x3ff0000000000000#64, 0x0#64, 0xbff0000000000000#64])] }

/-- Y after a command. -/
def yOf (i : Instr) (s : State) : Option Flt := (got (exec i s)).map State.y

/-- STATUS after a command. -/
def statusOf (i : Instr) (s : State) : Option U32 := (got (exec i s)).map State.status

/-! ### Parameters: values of R8 and R300 other than the defaults -/

/-- Each class has an instance count of its own (00_scope.md R8). -/
theorem test_counts_per_class :
    let s := State.resetWith (Params.standard .binary64) { Counts.standard with dln := 2, bar := 0, brass := 64 }
    [1, 2, 14, 16, 17, 20].map s.instances = [2, 4, 4, 0, 4, 64] ∧ s.units.vib.length = 4 := by
  decide +kernel

/-- FMAX_m is a constant of each model (45_models.md R300): 100 Hz for CLAR and SR/4 for FLUTE beside the default SR/8 = 5512.5 Hz. -/
theorem test_fmax_per_model :
    let p := s0.params
    let c := { s0 with params := { p with clar := { p.clar with fmax := .hertz 0x4059000000000000#64 }
                                          flute := { p.flute with fmax := .srOver 0x4010000000000000#64 } } }.ctx
    [clarKit.fmax c, fluteKit.fmax c, bowedKit.fmax c, brassKit.fmax c] =
      [0x4059000000000000#64, 0x40c5888000000000#64, 0x40b5888000000000#64, 0x40b5888000000000#64] := by
  decide +kernel

/-! ### Well-formedness: an ill-formed term for the check (R101: instances 0..63) -/

/-- INST is a 6-bit field (R101). -/
theorem test_wellFormed_refuses_64 : Instr.wellFormed (.dlnCfg 64) = false := by
  decide +kernel

/-- INST is a 6-bit field (R101). -/
theorem test_wellFormed_accepts_63 : Instr.wellFormed (.dlnCfg 63) = true ∧ Instr.wellFormed .sysNop = true := by
  decide +kernel

/-! ### Decoding: words written out from the table of R103, and the illegal words of V-ENC -/

/-- Class 0x0 of R102, every FUNC of R103. -/
theorem test_decode_sys :
    [0x00000000#32, 0x00400000#32, 0x00800000#32, 0x00c00000#32].map decode =
      [.ok .sysNop, .ok .sysClrstat, .ok .sysSreset, .ok .sysSetctx] := by
  decide +kernel

/-- Class 0x1 of R102, every FUNC of R103. -/
theorem test_decode_dln :
    [0x04010000#32, 0x04420000#32, 0x04a10000#32, 0x04ff0000#32].map decode =
      [.ok (.dlnCfg 1), .ok (.dlnSetdel 2), .ok (.dlnTick 33), .ok (.dlnLast 63)] := by
  decide +kernel

/-- Class 0x2 of R102, every FUNC of R103. -/
theorem test_decode_dla :
    [0x08010000#32, 0x08420000#32, 0x08a10000#32, 0x08ff0000#32].map decode =
      [.ok (.dlaCfg 1), .ok (.dlaSetdel 2), .ok (.dlaTick 33), .ok (.dlaLast 63)] := by
  decide +kernel

/-- Class 0x3 of R102, every FUNC of R103. -/
theorem test_decode_dll :
    [0x0c010000#32, 0x0c420000#32, 0x0ca10000#32, 0x0cff0000#32].map decode =
      [.ok (.dllCfg 1), .ok (.dllSetdel 2), .ok (.dllTick 33), .ok (.dllLast 63)] := by
  decide +kernel

/-- Class 0x4 of R102, every FUNC of R103. -/
theorem test_decode_biq :
    [0x10010000#32, 0x10420000#32, 0x10a10000#32, 0x10ff0000#32, 0x11050000#32, 0x11500000#32].map decode =
      [.ok (.biqSetfr 1), .ok (.biqSetegz 2), .ok (.biqSetgain 33), .ok (.biqTick 63), .ok (.biqClear 5), .ok (.biqLast 16)] := by
  decide +kernel

/-- Class 0x5 of R102, every FUNC of R103. -/
theorem test_decode_opole :
    [0x14010000#32, 0x14420000#32, 0x14a10000#32, 0x14ff0000#32].map decode =
      [.ok (.opoleSetgain 1), .ok (.opoleSetcoef 2), .ok (.opoleTick 33), .ok (.opoleLast 63)] := by
  decide +kernel

/-- Class 0x6 of R102, every FUNC of R103. -/
theorem test_decode_ozero :
    [0x18010000#32, 0x18420000#32, 0x18a10000#32, 0x18ff0000#32].map decode =
      [.ok (.ozeroSetgain 1), .ok (.ozeroSetcoef 2), .ok (.ozeroTick 33), .ok (.ozeroLast 63)] := by
  decide +kernel

/-- Class 0x7 of R102, every FUNC of R103. -/
theorem test_decode_dcb :
    [0x1c010000#32, 0x1c420000#32].map decode =
      [.ok (.dcbTick 1), .ok (.dcbLast 2)] := by
  decide +kernel

/-- Class 0x8 of R102, every FUNC of R103. -/
theorem test_decode_adsr :
    [0x20010000#32, 0x20420000#32, 0x20a10000#32, 0x20ff0000#32, 0x21050000#32, 0x21500000#32, 0x21a80000#32, 0x21fe0000#32].map decode =
      [.ok (.adsrSettimes 1), .ok (.adsrSettarget 2), .ok (.adsrSetatk 33), .ok (.adsrSetrel 63), .ok (.adsrKeyon 5), .ok (.adsrKeyoff 16), .ok (.adsrTick 40), .ok (.adsrLast 62)] := by
  decide +kernel

/-- Class 0x9 of R102, every FUNC of R103. -/
theorem test_decode_env :
    [0x24010000#32, 0x24420000#32, 0x24a10000#32, 0x24ff0000#32, 0x25050000#32, 0x25500000#32].map decode =
      [.ok (.envSetrate 1), .ok (.envSettarget 2), .ok (.envKeyon 33), .ok (.envKeyoff 63), .ok (.envTick 5), .ok (.envLast 16)] := by
  decide +kernel

/-- Class 0xa of R102, every FUNC of R103. -/
theorem test_decode_bow :
    [0x28010000#32, 0x28420000#32].map decode =
      [.ok (.bowSetslope 1), .ok (.bowLookup 2)] := by
  decide +kernel

/-- Class 0xb of R102, every FUNC of R103. -/
theorem test_decode_reed :
    [0x2c010000#32, 0x2c420000#32, 0x2ca10000#32].map decode =
      [.ok (.reedSetoffset 1), .ok (.reedSetslope 2), .ok (.reedLookup 33)] := by
  decide +kernel

/-- Class 0xc of R102, every FUNC of R103. -/
theorem test_decode_jet :
    [0x30010000#32].map decode =
      [.ok (.jetLookup 1)] := by
  decide +kernel

/-- Class 0xd of R102, every FUNC of R103. -/
theorem test_decode_noise :
    [0x34010000#32, 0x34420000#32].map decode =
      [.ok (.noiseTick 1), .ok (.noiseLast 2)] := by
  decide +kernel

/-- Class 0xe of R102, every FUNC of R103. -/
theorem test_decode_vib :
    [0x38010000#32, 0x38420000#32, 0x38a10000#32, 0x38ff0000#32].map decode =
      [.ok (.vibSettab 1), .ok (.vibSetfreq 2), .ok (.vibTick 33), .ok (.vibLast 63)] := by
  decide +kernel

/-- Class 0x10 of R102, every FUNC of R103. -/
theorem test_decode_bar :
    [0x40010000#32, 0x40420000#32, 0x40a10000#32, 0x40ff0000#32].map decode =
      [.ok (.barSetctl 1), .ok (.barInit 2), .ok (.barRender 33), .ok (.barRelease 63)] := by
  decide +kernel

/-- Class 0x11 of R102, every FUNC of R103. -/
theorem test_decode_clar :
    [0x44010000#32, 0x44420000#32, 0x44a10000#32, 0x44ff0000#32].map decode =
      [.ok (.clarSetctl 1), .ok (.clarInit 2), .ok (.clarRender 33), .ok (.clarRelease 63)] := by
  decide +kernel

/-- Class 0x12 of R102, every FUNC of R103. -/
theorem test_decode_flute :
    [0x48010000#32, 0x48420000#32, 0x48a10000#32, 0x48ff0000#32].map decode =
      [.ok (.fluteSetctl 1), .ok (.fluteInit 2), .ok (.fluteRender 33), .ok (.fluteRelease 63)] := by
  decide +kernel

/-- Class 0x13 of R102, every FUNC of R103. -/
theorem test_decode_bowed :
    [0x4c010000#32, 0x4c420000#32, 0x4ca10000#32, 0x4cff0000#32].map decode =
      [.ok (.bowedSetctl 1), .ok (.bowedInit 2), .ok (.bowedRender 33), .ok (.bowedRelease 63)] := by
  decide +kernel

/-- Class 0x14 of R102, every FUNC of R103. -/
theorem test_decode_brass :
    [0x50010000#32, 0x50420000#32, 0x50a10000#32, 0x50ff0000#32].map decode =
      [.ok (.brassSetctl 1), .ok (.brassInit 2), .ok (.brassRender 33), .ok (.brassRelease 63)] := by
  decide +kernel

/-- R112, V-ENC-6, V-ENC-7. -/
theorem test_decode_examples :
    [0x10c20000#32, 0x04000000#32, 0x04800000#32, 0x21010000#32, 0x44800000#32, 0x4cc30000#32, 0x50c30000#32].map decode =
      [.ok (.biqTick 2), .ok (.dlnCfg 0), .ok (.dlnTick 0), .ok (.adsrKeyon 1), .ok (.clarRender 0), .ok (.bowedRelease 3),
        .ok (.brassRelease 3)] := by
  decide +kernel

/-- V-ENC-8 to V-ENC-12, V-ENC-14 to V-ENC-20. -/
theorem test_decode_illegal :
    [0x3c000000#32, 0x54000000#32, 0x04000001#32, 0x01000000#32, 0x00010000#32, 0x1d000000#32, 0x30400000#32, 0x2cc00000#32,
        0x11800000#32, 0x41000000#32, 0x00ff0000#32, 0xffffffff#32].map decode =
      [.error .reserved, .error .reserved, .error .zeroField, .error .reserved, .error .sysInst, .error .reserved,
        .error .reserved, .error .reserved, .error .reserved, .error .reserved, .error .sysInst, .error .zeroField] := by
  decide +kernel

/-- V-ENC-13: biq.tick 5 with N_BIQ = 4 is ERR_ILLEGAL, status 0x8020. -/
theorem test_issue_inst_out_of_range : (got (issue 0x10c50000#32 State.reset)).map State.status = some 0x8020#32 := by
  decide +kernel

/-- From reset, the word placed by withFetchWord runs in the next step: dln.last 0 (V-DLN-10). -/
theorem test_step_fetch_word :
    (got (step (State.reset.withFetchWord 32 0x04c00000))).map (fun t => (t.y, t.status, t.cmd, t.pending)) =
      some (0x0#64, 0x0#32, 0x04c00000#32, []) := by
  decide +kernel

/-! ### SYS -/

/-- V-SYS-2. -/
theorem test_sysNop : statusOf .sysNop { s0 with status := 0x8011#32 } = some 0x11#32 := by
  decide +kernel

/-- V-SYS-3. -/
theorem test_sysClrstat : statusOf .sysClrstat { s0 with status := 0x11#32 } = some 0x0#32 := by
  decide +kernel

/-- V-SYS-7: the line is unsized, SR, A0 and Y are kept. -/
theorem test_sysSreset :
    (got (exec .sysSreset { s0 with a0 := 0x4004000000000000#64, y := 0x401c000000000000#64, status := 0x1#32, units := { s0.units with dln := [⟨2, 1, 0, 0x0#64, [0x0#64, 0x0#64]⟩] } })).map
      (fun t => (t.units.dln, t.status, t.sr, t.a0, t.y)) =
      some ([⟨0, 0, 0, 0x0#64, []⟩], 0x0#32, 0x40e5888000000000#64, 0x4004000000000000#64, 0x401c000000000000#64) := by
  decide +kernel

/-- V-SYS-4. -/
theorem test_sysSetctx :
    (got (exec .sysSetctx { s0 with iarg := 1, a0 := 0x4024000000000000#64 })).map (fun t => (t.sr, t.kr)) =
      some (0x40e5888000000000#64, 0x4024000000000000#64) := by
  decide +kernel

/-- V-SYS-6: 0 is refused. -/
theorem test_sysSetctx_refuses :
    (got (exec .sysSetctx { s0 with a0 := 0x0#64 })).map (fun t => (t.sr, t.status)) =
      some (0x40e5888000000000#64, 0x8080#32) := by
  decide +kernel

/-! ### Delay lines -/

/-- R131's example: cap 4, w 0, r 1. -/
theorem test_dlnCfg :
    (got (exec (.dlnCfg 0) { s0 with iarg := 3 })).map (fun t => t.units.dln) =
      some [⟨4, 0, 1, 0x0#64, [0x0#64, 0x0#64, 0x0#64, 0x0#64]⟩] := by
  decide +kernel

/-- V-DLN-13. -/
theorem test_dlnCfg_refuses : statusOf (.dlnCfg 0) { s0 with iarg := 65536 } = some 0x8080#32 := by
  decide +kernel

/-- R132's example: lag 2.9 is truncated to 2 (r = (w - 2) mod 4). -/
theorem test_dlnSetdel :
    (got (exec (.dlnSetdel 0) { s0 with a0 := 0x4007333333333333#64, units := { s0.units with dln := [⟨4, 1, 2, 0x0#64, [0x0#64, 0x0#64, 0x0#64, 0x0#64]⟩] } })).map (fun t => t.units.dln) =
      some [⟨4, 1, 3, 0x0#64, [0x0#64, 0x0#64, 0x0#64, 0x0#64]⟩] := by
  decide +kernel

/-- R132's example: lag 7 warns and sets delay 3. -/
theorem test_dlnSetdel_clamps :
    (got (exec (.dlnSetdel 0) { s0 with a0 := 0x401c000000000000#64, units := { s0.units with dln := [⟨4, 0, 3, 0x0#64, [0x0#64, 0x0#64, 0x0#64, 0x0#64]⟩] } })).map (fun t => (t.units.dln, t.status)) =
      some ([⟨4, 0, 1, 0x0#64, [0x0#64, 0x0#64, 0x0#64, 0x0#64]⟩], 0x1#32) := by
  decide +kernel

/-- R133's example, the fourth tick: Y = 1. -/
theorem test_dlnTick :
    yOf (.dlnTick 0) { s0 with units := { s0.units with dln := [⟨4, 3, 0, 0x0#64, [0x3ff0000000000000#64, 0x0#64, 0x0#64, 0x0#64]⟩] } } =
      some 0x3ff0000000000000#64 := by
  decide +kernel

/-- V-DLN-7: capacity 1, the word just written is returned. -/
theorem test_dlnTick_delay0 :
    yOf (.dlnTick 0) { s0 with a0 := 0x401c000000000000#64, units := { s0.units with dln := [⟨1, 0, 0, 0x0#64, [0x0#64]⟩] } } =
      some 0x401c000000000000#64 := by
  decide +kernel

/-- R134's example. -/
theorem test_dlnLast :
    yOf (.dlnLast 0) { s0 with units := { s0.units with dln := [⟨4, 0, 1, 0x3ff0000000000000#64, [0x0#64, 0x0#64, 0x0#64, 0x0#64]⟩] } } =
      some 0x3ff0000000000000#64 := by
  decide +kernel

/-- V-DLA-1. -/
theorem test_dlaCfg :
    (got (exec (.dlaCfg 0) { s0 with iarg := 8 })).map (fun t => t.units.dla) =
      some [⟨9, 0, 3, 0x3ff0000000000000#64, 0x0#64, 0x0#64, 0x0#64, [0x0#64, 0x0#64, 0x0#64, 0x0#64, 0x0#64, 0x0#64, 0x0#64, 0x0#64, 0x0#64]⟩] := by
  decide +kernel

/-- V-DLA-2: lag 4.5 gives r 6, alpha 0.5, coeff 1/3. -/
theorem test_dlaSetdel :
    (got (exec (.dlaSetdel 0) { s0 with a0 := 0x4012000000000000#64, units := { s0.units with dla := [⟨9, 0, 3, 0x3ff0000000000000#64, 0x0#64, 0x0#64, 0x0#64, [0x0#64, 0x0#64, 0x0#64, 0x0#64, 0x0#64, 0x0#64, 0x0#64, 0x0#64, 0x0#64]⟩] } })).map (fun t => t.units.dla) =
      some [⟨9, 0, 6, 0x3fe0000000000000#64, 0x3fd5555555555555#64, 0x0#64, 0x0#64, [0x0#64, 0x0#64, 0x0#64, 0x0#64, 0x0#64, 0x0#64, 0x0#64, 0x0#64, 0x0#64]⟩] := by
  decide +kernel

/-- V-DLA-4: lag 4.05 is below the 0.1 threshold and shifts r to 7. -/
theorem test_dlaSetdel_shift :
    ((got (exec (.dlaSetdel 0) { s0 with a0 := 0x4010333333333333#64, units := { s0.units with dla := [⟨9, 0, 3, 0x3ff0000000000000#64, 0x0#64, 0x0#64, 0x0#64, [0x0#64, 0x0#64, 0x0#64, 0x0#64, 0x0#64, 0x0#64, 0x0#64, 0x0#64, 0x0#64]⟩] } })).map (fun t => t.units.dla)).map (List.map Dla.r) =
      some [7] := by
  decide +kernel

/-- R143's example, the fifth tick: Y = 8/9. -/
theorem test_dlaTick :
    yOf (.dlaTick 0) { s0 with units := { s0.units with dla := [⟨9, 4, 1, 0x3fe0000000000000#64, 0x3fd5555555555555#64, 0x3ff0000000000000#64, 0x3fd5555555555555#64, [0x3ff0000000000000#64, 0x0#64, 0x0#64, 0x0#64, 0x0#64, 0x0#64, 0x0#64, 0x0#64, 0x0#64]⟩] } } =
      some 0x3fec71c71c71c71c#64 := by
  decide +kernel

/-- V-DLA-11. -/
theorem test_dlaLast :
    yOf (.dlaLast 0) { s0 with units := { s0.units with dla := [⟨9, 4, 1, 0x3fe0000000000000#64, 0x3fd5555555555555#64, 0x3ff0000000000000#64, 0xbfa0db20a88f4695#64, [0x0#64, 0x0#64, 0x0#64, 0x0#64, 0x0#64, 0x0#64, 0x0#64, 0x0#64, 0x0#64]⟩] } } =
      some 0xbfa0db20a88f4695#64 := by
  decide +kernel

/-- R151's example: cap 5, w 0, r 1, alpha 0. -/
theorem test_dllCfg :
    (got (exec (.dllCfg 0) { s0 with iarg := 4 })).map (fun t => t.units.dll) =
      some [⟨5, 0, 1, 0x0#64, 0x0#64, [0x0#64, 0x0#64, 0x0#64, 0x0#64, 0x0#64]⟩] := by
  decide +kernel

/-- R152's example: lag 1.25 gives r 3, alpha 0.75. -/
theorem test_dllSetdel :
    (got (exec (.dllSetdel 0) { s0 with a0 := 0x3ff4000000000000#64, units := { s0.units with dll := [⟨5, 0, 1, 0x0#64, 0x0#64, [0x0#64, 0x0#64, 0x0#64, 0x0#64, 0x0#64]⟩] } })).map (fun t => t.units.dll) =
      some [⟨5, 0, 3, 0x3fe8000000000000#64, 0x0#64, [0x0#64, 0x0#64, 0x0#64, 0x0#64, 0x0#64]⟩] := by
  decide +kernel

/-- R153's example, the second tick: Y = 0.75. -/
theorem test_dllTick :
    yOf (.dllTick 0) { s0 with units := { s0.units with dll := [⟨5, 1, 4, 0x3fe8000000000000#64, 0x0#64, [0x3ff0000000000000#64, 0x0#64, 0x0#64, 0x0#64, 0x0#64]⟩] } } =
      some 0x3fe8000000000000#64 := by
  decide +kernel

/-- R154's example. -/
theorem test_dllLast :
    yOf (.dllLast 0) { s0 with units := { s0.units with dll := [⟨5, 2, 0, 0x3fe8000000000000#64, 0x3fe8000000000000#64, [0x0#64, 0x0#64, 0x0#64, 0x0#64, 0x0#64]⟩] } } =
      some 0x3fe8000000000000#64 := by
  decide +kernel

/-- V-DLN-9, V-DLA-10. -/
theorem test_unsized : [statusOf (.dlnTick 0) s0, statusOf (.dlaSetdel 0) s0, statusOf (.dllTick 0) s0] = [some 0x8008#32, some 0x8008#32, some 0x8008#32] := by
  decide +kernel

/-! ### Filters -/

/-- V-BIQ-9. -/
theorem test_biqSetfr :
    (got (exec (.biqSetfr 0) { s0 with a0 := 0x408f400000000000#64, a1 := 0x3feccccccccccccd#64 })).map (fun t => t.units.biq) =
      some [⟨0x3ffc82184b955d1f#64, 0xbfe9eb851eb851ec#64, 0x0#64, 0x0#64, 0x3ff0000000000000#64, 0x0#64, 0x0#64, 0x0#64, 0x0#64⟩] := by
  decide +kernel

/-- V-BIQ-6. -/
theorem test_biqSetfr_unset :
    statusOf (.biqSetfr 0) { s0 with sr := 0x0#64, a0 := 0x4059000000000000#64, a1 := 0x3feccccccccccccd#64 } =
      some 0x8040#32 := by
  decide +kernel

/-- R172's example. -/
theorem test_biqSetegz :
    (got (exec (.biqSetegz 0) { s0 with y := 0x0#64 })).map (fun t => t.units.biq) =
      some [⟨0x0#64, 0x0#64, 0x0#64, 0xbff0000000000000#64, 0x3ff0000000000000#64, 0x0#64, 0x0#64, 0x0#64, 0x0#64⟩] := by
  decide +kernel

/-- R173's example. -/
theorem test_biqSetgain :
    (got (exec (.biqSetgain 0) { s0 with a0 := 0x3fb851eb851eb852#64 })).map (fun t => t.units.biq) =
      some [⟨0x0#64, 0x0#64, 0x0#64, 0x0#64, 0x3fb851eb851eb852#64, 0x0#64, 0x0#64, 0x0#64, 0x0#64⟩] := by
  decide +kernel

/-- R174's example, the second sample. -/
theorem test_biqTick :
    yOf (.biqTick 0) { s0 with units := { s0.units with biq := [⟨0x3ffc82184b955d1f#64, 0xbfe9eb851eb851ec#64, 0x0#64, 0xbff0000000000000#64, 0x3fb851eb851eb850#64, 0x3fb851eb851eb850#64, 0x0#64, 0x3fb851eb851eb850#64, 0x0#64⟩] } } =
      some 0x3fc5aa8d5829d620#64 := by
  decide +kernel

/-- R174's example, the third sample: both past inputs and outputs count. -/
theorem test_biqTick_third :
    yOf (.biqTick 0) { s0 with units := { s0.units with biq := [⟨0x3ffc82184b955d1f#64, 0xbfe9eb851eb851ec#64, 0x0#64, 0xbff0000000000000#64, 0x3fb851eb851eb850#64, 0x0#64, 0x3fb851eb851eb850#64, 0x3fc5aa8d5829d620#64, 0x3fb851eb851eb850#64⟩] } } =
      some 0x3fc0982cd79d3d2a#64 := by
  decide +kernel

/-- V-BIQ-8: the history is cleared, coefficients kept. -/
theorem test_biqClear :
    (got (exec (.biqClear 0) { s0 with units := { s0.units with biq := [⟨0x3ffc82184b955d1f#64, 0xbfe9eb851eb851ec#64, 0x0#64, 0xbff0000000000000#64, 0x3fb851eb851eb850#64, 0x3ff0000000000000#64, 0x3ff0000000000000#64, 0x3ff0000000000000#64, 0x3ff0000000000000#64⟩] } })).map (fun t => t.units.biq) =
      some [⟨0x3ffc82184b955d1f#64, 0xbfe9eb851eb851ec#64, 0x0#64, 0xbff0000000000000#64, 0x3fb851eb851eb850#64, 0x0#64, 0x0#64, 0x0#64, 0x0#64⟩] := by
  decide +kernel

/-- R176's example. -/
theorem test_biqLast :
    yOf (.biqLast 0) { s0 with units := { s0.units with biq := [⟨0x3ffc82184b955d1f#64, 0xbfe9eb851eb851ec#64, 0x0#64, 0x0#64, 0x3fb851eb851eb850#64, 0x0#64, 0x0#64, 0x3fa1df9dcb4ea310#64, 0x3ff0000000000000#64⟩] } } =
      some 0x3fa1df9dcb4ea310#64 := by
  decide +kernel

/-- V-OP-4: coef 0.5, gain -1 gives sgain -0.5. -/
theorem test_opoleSetgain :
    (got (exec (.opoleSetgain 0) { s0 with a0 := 0xbff0000000000000#64, units := { s0.units with opole := [⟨0x3ff0000000000000#64, 0x3fe0000000000000#64, 0x3fe0000000000000#64, 0x0#64⟩] } })).map (fun t => t.units.opole) =
      some [⟨0xbff0000000000000#64, 0x3fe0000000000000#64, 0xbfe0000000000000#64, 0x0#64⟩] := by
  decide +kernel

/-- V-OP-3: gain 2, coef -0.5 gives sgain 1. -/
theorem test_opoleSetcoef :
    (got (exec (.opoleSetcoef 0) { s0 with a0 := 0xbfe0000000000000#64, units := { s0.units with opole := [⟨0x4000000000000000#64, 0x0#64, 0x4000000000000000#64, 0x0#64⟩] } })).map (fun t => t.units.opole) =
      some [⟨0x4000000000000000#64, 0xbfe0000000000000#64, 0x3ff0000000000000#64, 0x0#64⟩] := by
  decide +kernel

/-- R182's example, the second sample. -/
theorem test_opoleTick :
    yOf (.opoleTick 0) { s0 with units := { s0.units with opole := [⟨0x3ff0000000000000#64, 0x3fe0000000000000#64, 0x3fe0000000000000#64, 0x3fe0000000000000#64⟩] } } =
      some 0x3fd0000000000000#64 := by
  decide +kernel

/-- V-OP-5. -/
theorem test_opoleLast :
    yOf (.opoleLast 0) { s0 with units := { s0.units with opole := [⟨0x4000000000000000#64, 0xbfe0000000000000#64, 0x3ff0000000000000#64, 0xbfc0000000000000#64⟩] } } =
      some 0xbfc0000000000000#64 := by
  decide +kernel

/-- R185's example: coef 1 gives sgain 0.5. -/
theorem test_ozeroSetgain :
    (got (exec (.ozeroSetgain 0) { s0 with a0 := 0x3ff0000000000000#64, units := { s0.units with ozero := [⟨0x4008000000000000#64, 0x3ff0000000000000#64, 0x3ff0000000000000#64, 0x0#64, 0x0#64⟩] } })).map (fun t => t.units.ozero) =
      some [⟨0x3ff0000000000000#64, 0x3ff0000000000000#64, 0x3fe0000000000000#64, 0x0#64, 0x0#64⟩] := by
  decide +kernel

/-- V-OZ-2: gain 3, coef -0.5 gives sgain 2. -/
theorem test_ozeroSetcoef :
    (got (exec (.ozeroSetcoef 0) { s0 with a0 := 0xbfe0000000000000#64, units := { s0.units with ozero := [⟨0x4008000000000000#64, 0x0#64, 0x4008000000000000#64, 0x0#64, 0x0#64⟩] } })).map (fun t => t.units.ozero) =
      some [⟨0x4008000000000000#64, 0xbfe0000000000000#64, 0x4000000000000000#64, 0x0#64, 0x0#64⟩] := by
  decide +kernel

/-- V-OZ-2, the second sample: Y = 1 and the input is stored. -/
theorem test_ozeroTick :
    (got (exec (.ozeroTick 0) { s0 with a0 := 0x3ff0000000000000#64, units := { s0.units with ozero := [⟨0x4008000000000000#64, 0xbfe0000000000000#64, 0x4000000000000000#64, 0x3ff0000000000000#64, 0x4000000000000000#64⟩] } })).map (fun t => (t.y, t.units.ozero)) =
      some (0x3ff0000000000000#64, [⟨0x4008000000000000#64, 0xbfe0000000000000#64, 0x4000000000000000#64, 0x3ff0000000000000#64, 0x3ff0000000000000#64⟩]) := by
  decide +kernel

/-- V-OZ-3. -/
theorem test_ozeroLast :
    yOf (.ozeroLast 0) { s0 with units := { s0.units with ozero := [⟨0x4008000000000000#64, 0xbfe0000000000000#64, 0x4000000000000000#64, 0x0#64, 0xbff0000000000000#64⟩] } } =
      some 0xbff0000000000000#64 := by
  decide +kernel

/-- V-DCB-1, the fourth sample. -/
theorem test_dcbTick :
    yOf (.dcbTick 0) { s0 with a0 := 0x3ff0000000000000#64, units := { s0.units with dcb := [⟨0x3ff0000000000000#64, 0x3fef5cfaacd9e83e#64⟩] } } =
      some 0x3fef0cb07d0aed99#64 := by
  decide +kernel

/-- V-DCB-3. -/
theorem test_dcbLast :
    yOf (.dcbLast 0) { s0 with units := { s0.units with dcb := [⟨0x0#64, 0xbf84467381d7dbfa#64⟩] } } =
      some 0xbf84467381d7dbfa#64 := by
  decide +kernel

/-! ### Envelopes -/

/-- R211's example with KR = 10. -/
theorem test_adsrSettimes :
    (got (exec (.adsrSettimes 0) { s0 with kr := 0x4024000000000000#64, a0 := 0x3fe0000000000000#64, a1 := 0x3f847ae147ae147b#64, a2 := 0x3feccccccccccccd#64, a3 := 0x3fd3333333333333#64 })).map (fun t => t.units.adsr) =
      some [⟨0x0#64, 0x0#64, 0x0#64, .release, 0x3fc999999999999a#64, 0x4024000000000000#64, 0x3fd5555555555555#64, 0x3feccccccccccccd#64⟩] := by
  decide +kernel

/-- V-ADSR-4: a time not above 0 gives the one-tick rate. -/
theorem test_adsrSettimes_zero :
    (got (exec (.adsrSettimes 0) { s0 with a3 := 0xbff0000000000000#64 })).map (fun t => t.units.adsr) =
      some [⟨0x0#64, 0x0#64, 0x0#64, .release, 0x3ff0000000000000#64, 0x3ff0000000000000#64, 0x3ff0000000000000#64, 0x0#64⟩] := by
  decide +kernel

/-- R212: target written, rate kept. -/
theorem test_adsrSettarget :
    (got (exec (.adsrSettarget 0) { s0 with a0 := 0x3fe0000000000000#64, units := { s0.units with adsr := [⟨0x0#64, 0x0#64, 0x3fc999999999999a#64, .attack, 0x0#64, 0x0#64, 0x0#64, 0x0#64⟩] } })).map (fun t => t.units.adsr) =
      some [⟨0x0#64, 0x3fe0000000000000#64, 0x3fc999999999999a#64, .attack, 0x0#64, 0x0#64, 0x0#64, 0x0#64⟩] := by
  decide +kernel

/-- V-ADSR-5. -/
theorem test_adsrSetatk :
    (got (exec (.adsrSetatk 0) { s0 with a0 := 0xbfd0000000000000#64 })).map (fun t => (t.units.adsr, t.status)) =
      some ([⟨0x0#64, 0x0#64, 0x0#64, .release, 0x3fd0000000000000#64, 0x0#64, 0x0#64, 0x0#64⟩], 0x4#32) := by
  decide +kernel

/-- R214's example. -/
theorem test_adsrSetrel :
    (got (exec (.adsrSetrel 0) { s0 with a0 := 0x3fa999999999999a#64 })).map (fun t => t.units.adsr) =
      some [⟨0x0#64, 0x0#64, 0x0#64, .release, 0x0#64, 0x0#64, 0x3fa999999999999a#64, 0x0#64⟩] := by
  decide +kernel

/-- V-ADSR-6. -/
theorem test_adsrSetrel_nan : statusOf (.adsrSetrel 0) { s0 with a0 := 0x7ff8000000000000#64 } = some 0x8080#32 := by
  decide +kernel

/-- R215: phase Attack, target 1, rate attackRate, value kept. -/
theorem test_adsrKeyon :
    (got (exec (.adsrKeyon 0) { s0 with units := { s0.units with adsr := [⟨0x3fd999999999999a#64, 0x0#64, 0x0#64, .release, 0x3fc999999999999a#64, 0x0#64, 0x3fb999999999999a#64, 0x0#64⟩] } })).map (fun t => t.units.adsr) =
      some [⟨0x3fd999999999999a#64, 0x3ff0000000000000#64, 0x3fc999999999999a#64, .attack, 0x3fc999999999999a#64, 0x0#64, 0x3fb999999999999a#64, 0x0#64⟩] := by
  decide +kernel

/-- R216: phase Release, target 0, rate releaseRate, value kept. -/
theorem test_adsrKeyoff :
    (got (exec (.adsrKeyoff 0) { s0 with units := { s0.units with adsr := [⟨0x3ff0000000000000#64, 0x3ff0000000000000#64, 0x3fc999999999999a#64, .attack, 0x3fc999999999999a#64, 0x0#64, 0x3fb999999999999a#64, 0x0#64⟩] } })).map (fun t => t.units.adsr) =
      some [⟨0x3ff0000000000000#64, 0x0#64, 0x3fb999999999999a#64, .release, 0x3fc999999999999a#64, 0x0#64, 0x3fb999999999999a#64, 0x0#64⟩] := by
  decide +kernel

/-- R215's example, the third tick. -/
theorem test_adsrTick :
    yOf (.adsrTick 0) { s0 with units := { s0.units with adsr := [⟨0x3fd999999999999a#64, 0x3ff0000000000000#64, 0x3fc999999999999a#64, .attack, 0x3fc999999999999a#64, 0x0#64, 0x0#64, 0x0#64⟩] } } =
      some 0x3fe3333333333334#64 := by
  decide +kernel

/-- R212's example, the third tick: exactly the target 0.5. -/
theorem test_adsrTick_clamps :
    yOf (.adsrTick 0) { s0 with units := { s0.units with adsr := [⟨0x3fd999999999999a#64, 0x3fe0000000000000#64, 0x3fc999999999999a#64, .attack, 0x3fc999999999999a#64, 0x0#64, 0x0#64, 0x0#64⟩] } } =
      some 0x3fe0000000000000#64 := by
  decide +kernel

/-- V-ADSR-11. -/
theorem test_adsrLast :
    yOf (.adsrLast 0) { s0 with units := { s0.units with adsr := [⟨0x3fdbb804a4dc96f0#64, 0x0#64, 0x0#64, .release, 0x0#64, 0x0#64, 0x0#64, 0x0#64⟩] } } =
      some 0x3fdbb804a4dc96f0#64 := by
  decide +kernel

/-- V-ENV-4. -/
theorem test_envSetrate :
    (got (exec (.envSetrate 0) { s0 with a0 := 0xbfb999999999999a#64 })).map (fun t => (t.units.env, t.status)) =
      some ([⟨0x0#64, 0x0#64, 0x3fb999999999999a#64, .release⟩], 0x4#32) := by
  decide +kernel

/-- R222: target written, phase kept. -/
theorem test_envSettarget :
    (got (exec (.envSettarget 0) { s0 with a0 := 0x3fe3333333333333#64 })).map (fun t => t.units.env) =
      some [⟨0x0#64, 0x3fe3333333333333#64, 0x0#64, .release⟩] := by
  decide +kernel

/-- R223: target 1, rate kept. -/
theorem test_envKeyon :
    (got (exec (.envKeyon 0) { s0 with units := { s0.units with env := [⟨0x0#64, 0x0#64, 0x3fe0000000000000#64, .release⟩] } })).map (fun t => t.units.env) =
      some [⟨0x0#64, 0x3ff0000000000000#64, 0x3fe0000000000000#64, .attack⟩] := by
  decide +kernel

/-- R224: target 0, rate kept. -/
theorem test_envKeyoff :
    (got (exec (.envKeyoff 0) { s0 with units := { s0.units with env := [⟨0x3ff0000000000000#64, 0x3ff0000000000000#64, 0x3fe0000000000000#64, .attack⟩] } })).map (fun t => t.units.env) =
      some [⟨0x3ff0000000000000#64, 0x0#64, 0x3fe0000000000000#64, .release⟩] := by
  decide +kernel

/-- R222's example, the third tick. -/
theorem test_envTick :
    yOf (.envTick 0) { s0 with units := { s0.units with env := [⟨0x3fe0000000000000#64, 0x3fe3333333333333#64, 0x3fd0000000000000#64, .attack⟩] } } =
      some 0x3fe3333333333333#64 := by
  decide +kernel

/-- V-ENV-2, the first tick. -/
theorem test_envTick_down :
    yOf (.envTick 0) { s0 with units := { s0.units with env := [⟨0x3ff0000000000000#64, 0x3fe0000000000000#64, 0x3fd0000000000000#64, .attack⟩] } } =
      some 0x3fe8000000000000#64 := by
  decide +kernel

/-- V-ENV-6. -/
theorem test_envLast :
    yOf (.envLast 0) { s0 with units := { s0.units with env := [⟨0x0#64, 0x0#64, 0x3fd0000000000000#64, .release⟩] } } =
      some 0x0#64 := by
  decide +kernel

/-! ### Tables, noise, vibrato -/

/-- R240's example. -/
theorem test_bowSetslope :
    (got (exec (.bowSetslope 0) { s0 with a0 := 0x4008000000000000#64 })).map (fun t => t.units.bow) =
      some [⟨0x4008000000000000#64⟩] := by
  decide +kernel

/-- V-BOW-2. -/
theorem test_bowLookup :
    yOf (.bowLookup 0) { s0 with a0 := 0x3fb999999999999a#64, units := { s0.units with bow := [⟨0x4008000000000000#64⟩] } } =
      some 0x3fea539423f23881#64 := by
  decide +kernel

/-- R241: x = 0.05 gives the bound 1. -/
theorem test_bowLookup_bound :
    yOf (.bowLookup 0) { s0 with a0 := 0x3fa999999999999a#64, units := { s0.units with bow := [⟨0x4008000000000000#64⟩] } } =
      some 0x3ff0000000000000#64 := by
  decide +kernel

/-- R243's example. -/
theorem test_reedSetoffset :
    (got (exec (.reedSetoffset 0) { s0 with a0 := 0x3fe6666666666666#64 })).map (fun t => t.units.reed) =
      some [⟨0x3fe6666666666666#64, 0x3ff0000000000000#64⟩] := by
  decide +kernel

/-- R244's example. -/
theorem test_reedSetslope :
    (got (exec (.reedSetslope 0) { s0 with a0 := 0xbfd3333333333333#64 })).map (fun t => t.units.reed) =
      some [⟨0x0#64, 0xbfd3333333333333#64⟩] := by
  decide +kernel

/-- R245: x = 2. -/
theorem test_reedLookup :
    yOf (.reedLookup 0) { s0 with a0 := 0x4000000000000000#64, units := { s0.units with reed := [⟨0x3fe6666666666666#64, 0xbfd3333333333333#64⟩] } } =
      some 0x3fb9999999999998#64 := by
  decide +kernel

/-- V-REED-2: x = 10 saturates at -1. -/
theorem test_reedLookup_bound :
    yOf (.reedLookup 0) { s0 with a0 := 0x4024000000000000#64, units := { s0.units with reed := [⟨0x3fe6666666666666#64, 0xbfd3333333333333#64⟩] } } =
      some 0xbff0000000000000#64 := by
  decide +kernel

/-- V-JET-1: x = 0.5. -/
theorem test_jetLookup : yOf (.jetLookup 0) { s0 with a0 := 0x3fe0000000000000#64 } = some 0xbfd8000000000000#64 := by
  decide +kernel

/-- V-JET-1: x = -2 saturates at -1. -/
theorem test_jetLookup_bound : yOf (.jetLookup 0) { s0 with a0 := 0xc000000000000000#64 } = some 0xbff0000000000000#64 := by
  decide +kernel

/-- V-NS-1: a NOISE_SRC that answers 0.25. -/
theorem test_noiseTick :
    (got (exec (.noiseTick 0) { s0 with noiseIn := [0x3fd0000000000000#64, 0xbff0000000000000#64] })).map (fun t => (t.y, t.units.noise, t.noiseIn)) =
      some (0x3fd0000000000000#64, [⟨0x3fd0000000000000#64⟩], [0xbff0000000000000#64]) := by
  decide +kernel

/-- V-NS-2: no draw is made. -/
theorem test_noiseLast :
    (got (exec (.noiseLast 0) { s0 with noiseIn := [0x3fd0000000000000#64], units := { s0.units with noise := [⟨0xbff0000000000000#64⟩] } })).map (fun t => (t.y, t.noiseIn)) =
      some (0xbff0000000000000#64, [0x3fd0000000000000#64]) := by
  decide +kernel

/-- V-VIB-1: len 4. -/
theorem test_vibSettab :
    (got (exec (.vibSettab 0) { s0 with iarg := 1 })).map (fun t => t.units.vib) =
      some [⟨1, 4, 0x0#64, 0x0#64, 0x0#64, 0x0#64⟩] := by
  decide +kernel

/-- V-VIB-4. -/
theorem test_vibSettab_absent : statusOf (.vibSettab 0) { s0 with iarg := 0 } = some 0x8010#32 := by
  decide +kernel

/-- V-VIB-2: rate 0.25. -/
theorem test_vibSetfreq :
    (got (exec (.vibSetfreq 0) { s0 with a0 := 0x40a5888000000000#64, units := { s0.units with vib := [⟨1, 4, 0x0#64, 0x0#64, 0x0#64, 0x0#64⟩] } })).map (fun t => t.units.vib) =
      some [⟨1, 4, 0x40a5888000000000#64, 0x3fd0000000000000#64, 0x0#64, 0x0#64⟩] := by
  decide +kernel

/-- V-VIB-2, the fifth tick: Y = 0.75. -/
theorem test_vibTick :
    yOf (.vibTick 0) { s0 with units := { s0.units with vib := [⟨1, 4, 0x40a5888000000000#64, 0x3fd0000000000000#64, 0x3ff0000000000000#64, 0x3ff0000000000000#64⟩] } } =
      some 0x3fe8000000000000#64 := by
  decide +kernel

/-- V-VIB-3, the first tick: the phase wraps to 3, Y = -1. -/
theorem test_vibTick_backwards :
    (got (exec (.vibTick 0) { s0 with units := { s0.units with vib := [⟨1, 4, 0xc0c5888000000000#64, 0xbff0000000000000#64, 0x0#64, 0x0#64⟩] } })).map (fun t => (t.y, t.units.vib)) =
      some (0xbff0000000000000#64, [⟨1, 4, 0xc0c5888000000000#64, 0xbff0000000000000#64, 0x4008000000000000#64, 0xbff0000000000000#64⟩]) := by
  decide +kernel

/-- V-VIB-9. -/
theorem test_vibLast :
    yOf (.vibLast 0) { s0 with units := { s0.units with vib := [⟨1, 4, 0x0#64, 0x0#64, 0x0#64, 0x3fe0000000000000#64⟩] } } =
      some 0x3fe0000000000000#64 := by
  decide +kernel

/-! ### Models -/

/-- R272's example: control 1 (FREQ) takes A0, the others keep. -/
theorem test_barSetctl :
    ((got (exec (.barSetctl 0) { s0 with iarg := 1, a0 := 0x406b800000000000#64 })).map (fun t => t.models.bar.map fun m => [m.hdr.ctl.get 1, m.hdr.ctl.get 0, m.hdr.cache.get 1])) =
      some [[0x406b800000000000#64, 0x0#64, 0x0#64]] := by
  decide +kernel

/-- R276, R364: SR unset. -/
theorem test_barInit_unset :
    (got (exec (.barInit 0) { s0 with sr := 0x0#64 })).map (fun t => (t.models.bar.map fun m => m.hdr.mstate, t.status)) =
      some ([.failed], 0x8040#32) := by
  decide +kernel

/-- V-MOD-9: every control +0; WARN_FLOOR and the WARN_CLAMP of FreqOf, capacity 887. -/
theorem test_barInit_floor :
    (got (exec (.barInit 0) s0)).map (fun t => (t.status, t.models.bar.map fun m => m.k.k0.d.cap)) = some (0x3#32, [887]) := by
  decide +kernel

/-- V-MOD-3. -/
theorem test_barRender_idle : statusOf (.barRender 0) s0 = some 0x8040#32 := by
  decide +kernel

/-- R289's example: counter 50 becomes 1. -/
theorem test_barRelease :
    ((got (exec (.barRelease 0) { s0 with models := { s0.models with bar := s0.models.bar.map fun m => { m with hdr := { m.hdr with mstate := .running, counter := 50 } } } })).map (fun t => t.models.bar.map fun m => m.hdr.counter)) =
      some [1] := by
  decide +kernel

/-- R272's example: control 1 (FREQ) takes A0, the others keep. -/
theorem test_clarSetctl :
    ((got (exec (.clarSetctl 0) { s0 with iarg := 1, a0 := 0x406b800000000000#64 })).map (fun t => t.models.clar.map fun m => [m.hdr.ctl.get 1, m.hdr.ctl.get 0, m.hdr.cache.get 1])) =
      some [[0x406b800000000000#64, 0x0#64, 0x0#64]] := by
  decide +kernel

/-- R276's example: no table, ERR_NOTABLE and FAILED. -/
theorem test_clarInit_noTable :
    (got (exec (.clarInit 0) s0)).map (fun t => (t.models.clar.map fun m => m.hdr.mstate, t.status)) =
      some ([.failed], 0x8010#32) := by
  decide +kernel

/-- V-MOD-3. -/
theorem test_clarRender_idle : statusOf (.clarRender 0) s0 = some 0x8040#32 := by
  decide +kernel

/-- R289's example: counter 50 becomes 1. -/
theorem test_clarRelease :
    ((got (exec (.clarRelease 0) { s0 with models := { s0.models with clar := s0.models.clar.map fun m => { m with hdr := { m.hdr with mstate := .running, counter := 50 } } } })).map (fun t => t.models.clar.map fun m => m.hdr.counter)) =
      some [1] := by
  decide +kernel

/-- R272's example: control 1 (FREQ) takes A0, the others keep. -/
theorem test_fluteSetctl :
    ((got (exec (.fluteSetctl 0) { s0 with iarg := 1, a0 := 0x406b800000000000#64 })).map (fun t => t.models.flute.map fun m => [m.hdr.ctl.get 1, m.hdr.ctl.get 0, m.hdr.cache.get 1])) =
      some [[0x406b800000000000#64, 0x0#64, 0x0#64]] := by
  decide +kernel

/-- R276's example: no table, ERR_NOTABLE and FAILED. -/
theorem test_fluteInit_noTable :
    (got (exec (.fluteInit 0) s0)).map (fun t => (t.models.flute.map fun m => m.hdr.mstate, t.status)) =
      some ([.failed], 0x8010#32) := by
  decide +kernel

/-- V-MOD-3. -/
theorem test_fluteRender_idle : statusOf (.fluteRender 0) s0 = some 0x8040#32 := by
  decide +kernel

/-- R289's example: counter 50 becomes 1. -/
theorem test_fluteRelease :
    ((got (exec (.fluteRelease 0) { s0 with models := { s0.models with flute := s0.models.flute.map fun m => { m with hdr := { m.hdr with mstate := .running, counter := 50 } } } })).map (fun t => t.models.flute.map fun m => m.hdr.counter)) =
      some [1] := by
  decide +kernel

/-- R272's example: control 1 (FREQ) takes A0, the others keep. -/
theorem test_bowedSetctl :
    ((got (exec (.bowedSetctl 0) { s0 with iarg := 1, a0 := 0x406b800000000000#64 })).map (fun t => t.models.bowed.map fun m => [m.hdr.ctl.get 1, m.hdr.ctl.get 0, m.hdr.cache.get 1])) =
      some [[0x406b800000000000#64, 0x0#64, 0x0#64]] := by
  decide +kernel

/-- R276's example: no table, ERR_NOTABLE and FAILED. -/
theorem test_bowedInit_noTable :
    (got (exec (.bowedInit 0) s0)).map (fun t => (t.models.bowed.map fun m => m.hdr.mstate, t.status)) =
      some ([.failed], 0x8010#32) := by
  decide +kernel

/-- V-MOD-3. -/
theorem test_bowedRender_idle : statusOf (.bowedRender 0) s0 = some 0x8040#32 := by
  decide +kernel

/-- R289's example: counter 50 becomes 1. -/
theorem test_bowedRelease :
    ((got (exec (.bowedRelease 0) { s0 with models := { s0.models with bowed := s0.models.bowed.map fun m => { m with hdr := { m.hdr with mstate := .running, counter := 50 } } } })).map (fun t => t.models.bowed.map fun m => m.hdr.counter)) =
      some [1] := by
  decide +kernel

/-- R272's example: control 1 (FREQ) takes A0, the others keep. -/
theorem test_brassSetctl :
    ((got (exec (.brassSetctl 0) { s0 with iarg := 1, a0 := 0x406b800000000000#64 })).map (fun t => t.models.brass.map fun m => [m.hdr.ctl.get 1, m.hdr.ctl.get 0, m.hdr.cache.get 1])) =
      some [[0x406b800000000000#64, 0x0#64, 0x0#64]] := by
  decide +kernel

/-- R276's example: no table, ERR_NOTABLE and FAILED. -/
theorem test_brassInit_noTable :
    (got (exec (.brassInit 0) s0)).map (fun t => (t.models.brass.map fun m => m.hdr.mstate, t.status)) =
      some ([.failed], 0x8010#32) := by
  decide +kernel

/-- V-MOD-3. -/
theorem test_brassRender_idle : statusOf (.brassRender 0) s0 = some 0x8040#32 := by
  decide +kernel

/-- R289's example: counter 50 becomes 1. -/
theorem test_brassRelease :
    ((got (exec (.brassRelease 0) { s0 with models := { s0.models with brass := s0.models.brass.map fun m => { m with hdr := { m.hdr with mstate := .running, counter := 50 } } } })).map (fun t => t.models.brass.map fun m => m.hdr.counter)) =
      some [1] := by
  decide +kernel

end Sys2Proof.Machine.Tests

end
end

