-- ==== Sys2Proof/Tests/Witnesses.lean ====
section
/-! SUPPORT. For every statement with hypotheses, a concrete state and operands that meet all of them together, for each of its
clauses, at boundary values where a clause has a range. -/

section

set_option Elab.async false

namespace Sys2Proof.Machine.Tests

/-- One of each kind of line, sized: capacities 4, 9 and 5. -/
def line4 : Dln := ⟨4, 0, 1, 0#64, [0#64, 0#64, 0#64, 0#64]⟩
def line9 : Dla := ⟨9, 0, 3, Fmt.one .binary64, 0#64, 0#64, 0#64, List.replicate 9 0#64⟩
def line5 : Dll := ⟨5, 0, 1, 0#64, 0#64, List.replicate 5 0#64⟩

/-- A vibrato with table 1 of `s0`. -/
def vib4 : Vib := ⟨1#32, 4, 0#64, 0#64, 0#64, 0#64⟩

/-- The lines of `s0` sized, the vibrato loaded. -/
def sized : State := { s0 with units := { s0.units with dln := [line4], dla := [line9], dll := [line5], vib := [vib4] } }

/-- A header of a running instance whose caches are clean and whose counter does not fire. -/
def running : Hdr := { Hdr.reset with mstate := .running, counter := -1 }

/-- Controls for a note: FREQ 4410 Hz, LOWFREQ 2205 Hz, VIBTAB 1, VIBFREQ 6, VIBAMT 1. -/
def noteHdr : Hdr :=
  { Hdr.reset with
    ctl := #v[0x3ff0000000000000#64, 0x40b13a0000000000#64, 0x40a13a0000000000#64, 0x0#64, 0x0#64, 0x3ff0000000000000#64,
      0x4018000000000000#64, 0x3ff0000000000000#64, 0x0#64, 0x3fe0000000000000#64, 0x3fe0000000000000#64, 0x0#64, 0x0#64,
      0x0#64, 0x0#64, 0x0#64] }

def barRun : Bar :=
  { Bar.fresh .binary64 running with
    k := ⟨⟨line4, Biq.reset .binary64, 0#64⟩, ⟨line4, Biq.reset .binary64, 0#64⟩, ⟨line4, Biq.reset .binary64, 0#64⟩,
      ⟨line4, Biq.reset .binary64, 0#64⟩⟩ }
def clarRun : Clar := { Clar.fresh .binary64 running with dl := line5, vb := vib4 }
def fluteRun : Flute := { Flute.fresh .binary64 running with bore := line5, jet := line5, vb := vib4 }
def bowedRun : Bowed := { Bowed.fresh .binary64 running with nut := line5, bridge := line5, vb := vib4 }
def brassRun : Brass := { Brass.fresh .binary64 running with bore := line9, vb := vib4 }

/-- Every model running, IARG 1. -/
def playing : State := { sized with iarg := 1#32, models := ⟨[barRun], [clarRun], [fluteRun], [bowedRun], [brassRun]⟩ }

/-- Every model idle with the controls of a note. -/
def ready : State :=
  { s0 with
    models := ⟨[Bar.fresh .binary64 noteHdr], [Clar.fresh .binary64 noteHdr], [Flute.fresh .binary64 noteHdr],
      [Bowed.fresh .binary64 noteHdr], [Brass.fresh .binary64 noteHdr]⟩ }

/-- A running note whose k-rate caches are +0, so that its next control update has work to do. -/
def dirtyHdr : Hdr := { noteHdr with mstate := .running, counter := -1, minF := 0x40a13a0000000000#64 }

/-- A running BRASS whose LIPTENSION is 1000, so that the frequency of its lip overflows. -/
def hot : State :=
  { playing with
    models := { playing.models with
      brass := [{ brassRun with hdr := { dirtyHdr with ctl := dirtyHdr.ctl.set 9 0x408f400000000000#64 } }] } }

/-- A command answered a next state where something of that state could be asked. -/
theorem got_map {α : Type} {o : Out} {f : State → α} {x : α} (h : (got o).map f = some x) : ∃ t, o = .next t ∧ f t = x := by
  cases o with
  | next t => exact ⟨t, rfl, by simpa [got] using h⟩
  | fault _ => simp [got] at h
  | refused _ => simp [got] at h

/-- R363: the error of a control update abandons the RENDER; the WARN_CLAMP before it stays. -/
theorem test_brassRender_abandons :
    (got (exec (.brassRender 0) hot)).map (fun t => (t.status, t.out, decide (t.models = hot.models))) =
      some (0x8081#32, [], true) := by
  decide +kernel

/-- R400: INTEG set to 1 after INIT is ignored, so that a velocity estimate of 1 falls to 0. -/
theorem test_barRender_integ :
    (got (exec (.barRender 0)
        { playing with
          models := { playing.models with
            bar := [{ barRun with vEst := 0x3ff0000000000000#64, hdr := { running with ctl := running.ctl.set 14 0x3ff0000000000000#64 } }] } })).map
        (fun t => t.models.bar.map Bar.vEst) = some [0#64] := by
  decide +kernel

/-- R132 in binary32: FLT does not hold cap - 1 = 16777219, and a lag of 16777220 is clamped all the same; log 15 takes a clamped lag
to 16777218 where a rule computes with it in FLT. -/
theorem test_lag_exact :
    lagOperand .binary32 0x4b800002#64 16777220 0 Int.ofNat (Fmt.trunc .binary32) = .ok warnClamp 16777219
      ∧ Fmt.fromNatDown .binary32 16777219 = 0x4b800001#64 := by
  decide +kernel

/-! ### Encoding and steps -/

theorem witness_DecodeEncodeRoundTrip : Instr.wellFormed (.brassRelease 63) = true ∧ Instr.wellFormed (.dlnCfg 0) = true := by
  decide

theorem witness_DecodedWordIsEncoded : decode 0x50ff0000#32 = .ok (.brassRelease 63) := by decide +kernel

/-- A word for each clause: ZERO not 0, a FUNC just past the table, SYS with INST 1, INST = N_C; and the last legal INST. -/
theorem witness_IllegalWordsRaiseIllegal :
    (0x04000001#32).extractLsb' 0 16 ≠ 0#16
      ∧ funcCount ((0x11800000#32).extractLsb' 26 6).toNat ≤ ((0x11800000#32).extractLsb' 22 4).toNat
      ∧ ((0x00010000#32).extractLsb' 26 6).toNat = 0 ∧ ((0x00010000#32).extractLsb' 16 6).toNat ≠ 0
      ∧ State.reset.instances ((0x10c40000#32).extractLsb' 26 6).toNat ≤ ((0x10c40000#32).extractLsb' 16 6).toNat
      ∧ ((0x10c40000#32).extractLsb' 26 6).toNat ≠ 0
      ∧ (0x10c30000#32).extractLsb' 0 16 = 0#16
      ∧ ((0x10c30000#32).extractLsb' 22 4).toNat < funcCount ((0x10c30000#32).extractLsb' 26 6).toNat
      ∧ ((0x10c30000#32).extractLsb' 16 6).toNat < State.reset.instances ((0x10c30000#32).extractLsb' 26 6).toNat := by
  decide +kernel

/-- A word that decodes, and one whose ZERO field is not 0. -/
theorem witness_StepRunsTheDecodedCommand :
    (State.reset.withFetchWord 32 0x04c00000).pending = .cmd 0x04c00000#32 :: []
      ∧ decode 0x04c00000#32 = .ok (.dlnLast 0)
      ∧ (State.reset.withFetchWord 32 0x04c00001).pending = .cmd 0x04c00001#32 :: []
      ∧ (got (issue 0x04c00001#32 s0)).map State.status = some 0x8020#32 := by
  decide +kernel

theorem witness_HostWritesLand :
    s0.pending = [] ∧ { s0 with pending := [.a0 0#64] }.pending = .a0 0#64 :: []
      ∧ { s0 with pending := [.a1 0#64] }.pending = .a1 0#64 :: [] ∧ { s0 with pending := [.a2 0#64] }.pending = .a2 0#64 :: []
      ∧ { s0 with pending := [.a3 0#64] }.pending = .a3 0#64 :: [] ∧ { s0 with pending := [.iarg 7#32] }.pending = .iarg 7#32 :: []
      ∧ { s0 with pending := [.table 2#32 [0#64]] }.pending = .table 2#32 [0#64] :: [] ∧ 2#32 ≠ 0#32 ∧ [0#64] ≠ ([] : List Flt)
      ∧ { s0 with pending := [.table 1#32 []] }.pending = .table 1#32 [] :: [] ∧ 1 ≠ (2#32).toNat
      ∧ Tables.wf s0.tables = true := by
  decide +kernel

/-! ### Invariants -/

theorem step_idle (s : State) (h : s.pending = []) : step s = .next s := by
  unfold step
  rw [h]

theorem witness_StepKeepsUnitsWellFormed : State.UnitsWf sized ∧ step sized = .next sized :=
  ⟨by refine ⟨?_, ?_, ?_, ?_, ?_, ?_, ?_, ?_, ?_⟩ <;> decide +kernel, step_idle _ rfl⟩

theorem witness_StepKeepsReservedStatusZero : State.StatusWf s0 ∧ step s0 = .next s0 := ⟨by decide +kernel, step_idle _ rfl⟩

theorem witness_StepKeepsHostMemoryCanonical : State.MemoryWf s0 ∧ step s0 = .next s0 := ⟨by decide +kernel, step_idle _ rfl⟩

/-- The first two clauses at sys.nop, the third at an idle step, with SR and KR set. -/
theorem witness_OnlySetctxWritesContext :
    exec .sysNop s0 = .next s0.start ∧ Instr.sysNop ≠ .sysSetctx ∧ s0.params.fmt.lt 0#64 s0.sr = true
      ∧ s0.params.fmt.lt 0#64 s0.kr = true ∧ State.ContextWf s0 ∧ step s0 = .next s0 :=
  ⟨rfl, by decide, by decide +kernel, by decide +kernel, by decide +kernel, step_idle _ rfl⟩

theorem witness_NoCommandWritesOperands : exec .sysNop s0 = .next s0.start := rfl

/-- Clauses 1 and 4 at sys.nop, clause 2 at an unsized dln.tick, clause 3 at both. -/
theorem witness_OnlyTheListedCommandsWriteResults :
    exec .sysNop s0 = .next s0.start ∧ Instr.writesY .sysNop = false ∧ Instr.isRender .sysNop = false
      ∧ exec (.dlnTick 0) s0 = .next (s0.abandon 0 errUnsized) ∧ Instr.isRender (.dlnTick 0) = false
      ∧ (s0.abandon 0 errUnsized).status &&& 0x8000#32 ≠ 0#32 :=
  ⟨rfl, rfl, rfl, rfl, rfl, by decide +kernel⟩

/-- An unsized dln.tick, and a RENDER with a warning before its error. -/
theorem witness_AbandonedCommandChangesOnlyStatus :
    (exec (.dlnTick 0) s0 = .next (s0.abandon 0 errUnsized) ∧ Instr.isRender (.dlnTick 0) = false
        ∧ Instr.isInit (.dlnTick 0) = false ∧ (s0.abandon 0 errUnsized).status &&& 0x8000#32 ≠ 0#32)
      ∧ Instr.isInit (.brassRender 0) = false ∧ ∃ t, exec (.brassRender 0) hot = .next t ∧ t.status &&& 0x8000#32 ≠ 0#32 := by
  obtain ⟨t, h, hs⟩ := got_map test_brassRender_abandons
  refine ⟨⟨rfl, rfl, rfl, by decide +kernel⟩, rfl, t, h, ?_⟩
  rw [(Prod.mk.inj hs).1]
  decide

theorem witness_StickyBitsStay :
    exec .sysNop s0 = .next s0.start ∧ Instr.sysNop ≠ .sysClrstat ∧ Instr.sysNop ≠ .sysSreset :=
  ⟨rfl, by decide, by decide⟩

theorem witness_CommandsTouchOnlyTheirInstance :
    exec .sysNop s0 = .next s0.start ∧ Instr.sysNop ≠ .sysSreset ∧ ¬ (1 = Instr.sysNop.cls ∧ 0 = Instr.sysNop.inst) :=
  ⟨rfl, by decide, by decide⟩

theorem barRender_playing : (got (exec (.barRender 0) playing)).map State.status = some 0#32 := by decide +kernel

/-- Two states that differ in output memory, with a running BAR; word 0 is written. -/
theorem witness_RenderIsAFunctionOfItsInputs :
    Instr.isRender (.barRender 0) = true ∧ (∃ t, exec (.barRender 0) playing = .next t ∧ t.status &&& 0x8000#32 = 0#32)
      ∧ (∃ t, exec (.barRender 0) { playing with out := [(0, 1#64)] } = .next t) ∧ 0 < playing.iarg.toNat
      ∧ playing.sameInstance { playing with out := [(0, 1#64)] } (Instr.cls (.barRender 0)) (Instr.inst (.barRender 0)) := by
  obtain ⟨t, h, hs⟩ := got_map barRender_playing
  exact ⟨rfl, ⟨t, h, by rw [hs]; decide⟩, ⟨_, rfl⟩, by decide, rfl⟩

/-! ### Reset and block control -/

theorem witness_ResetInputRestoresResetValues : { sized with pending := [.reset] }.pending = .reset :: [] := rfl

/-- sys.setctx: IARG 2, a value not finite, the value 0, and IARG 0 and 1 with the smallest positive value. -/
theorem witness_SysCommands :
    1 < { s0 with iarg := 2#32 }.iarg.toNat ∧ Fmt.isFinite .binary64 0x7ff0000000000000#64 = false
      ∧ Fmt.lt .binary64 0#64 0#64 = false
      ∧ Fmt.isFinite .binary64 1#64 = true ∧ Fmt.lt .binary64 0#64 1#64 = true
      ∧ { s0 with a0 := 1#64 }.iarg = 0#32 ∧ { s0 with a0 := 1#64, iarg := 1#32 }.iarg = 1#32 := by
  decide +kernel

/-! ### Delay lines -/

/-- cfg at MAXCAP and one above; setdel of NaN, of a lag just above cap - 1, of -1 and of cap - 1. -/
theorem witness_DlnConfigure :
    s0.units.dln[0]? = some Dln.reset ∧ Dln.reset.cap = 0
      ∧ sized.units.dln[0]? = some line4 ∧ 65536 < 65536 + 1 ∧ sized.params.maxCap = 65536 ∧ 0 < line4.cap
      ∧ Fmt.isNaN .binary64 0x7ff8000000000000#64 = true
      ∧ Fmt.gtNat .binary64 0x4008000000000001#64 (line4.cap - 1) = true
      ∧ Fmt.lt .binary64 0xbff0000000000000#64 0#64 = true
      ∧ Fmt.gtNat .binary64 0x4008000000000000#64 (line4.cap - 1) = false := by
  decide +kernel

theorem witness_DlnTickAndLast :
    s0.units.dln[0]? = some Dln.reset ∧ Dln.reset.cap = 0
      ∧ sized.units.dln[0]? = some line4 ∧ line4.Wf sized.params.maxCap ∧ 0 < line4.cap := by
  decide +kernel

theorem witness_DlnDelayGuarantee :
    sized.units.dln[0]? = some line4 ∧ line4.Wf sized.params.maxCap ∧ 0 < line4.cap
      ∧ 0 + (((line4.w : Int) - (line4.r : Int)) % (line4.cap : Int)).toNat < [1#64, 0#64, 0#64, 0#64].length := by
  decide +kernel

/-- cfg with 1, 2, MAXCAP - 1 and MAXCAP; setdel of NaN and of the least lag 2. -/
theorem witness_DlaConfigure :
    s0.units.dla[0]? = some Dla.reset ∧ Dla.reset.cap = 0
      ∧ sized.units.dla[0]? = some line9 ∧ 1 < 2 ∧ 2 ≤ 2 ∧ 65535 + 1 ≤ sized.params.maxCap ∧ sized.params.maxCap < 65536 + 1
      ∧ 0 < line9.cap ∧ Fmt.isNaN .binary64 0x7ff8000000000000#64 = true
      ∧ Fmt.isNaN .binary64 0x4000000000000000#64 = false := by
  decide +kernel

theorem witness_DlaTickAndLast :
    s0.units.dla[0]? = some Dla.reset ∧ Dla.reset.cap = 0
      ∧ sized.units.dla[0]? = some line9 ∧ line9.Wf sized.params.maxCap ∧ 0 < line9.cap := by
  decide +kernel

/-- cfg with 0, 1, MAXCAP - 1 and MAXCAP; setdel of NaN and of the least lag 0. -/
theorem witness_DllConfigure :
    s0.units.dll[0]? = some Dll.reset ∧ Dll.reset.cap = 0
      ∧ sized.units.dll[0]? = some line5 ∧ 0 < 1 ∧ 1 ≤ 1 ∧ 65535 + 1 ≤ sized.params.maxCap ∧ sized.params.maxCap < 65536 + 1
      ∧ 0 < line5.cap ∧ Fmt.isNaN .binary64 0x7ff8000000000000#64 = true ∧ Fmt.isNaN .binary64 0#64 = false := by
  decide +kernel

theorem witness_DllTickAndLast :
    s0.units.dll[0]? = some Dll.reset ∧ Dll.reset.cap = 0
      ∧ sized.units.dll[0]? = some line5 ∧ line5.Wf sized.params.maxCap ∧ 0 < line5.cap := by
  decide +kernel

theorem witness_UnsizedLines :
    s0.units.dln[0]? = some Dln.reset ∧ Dln.reset.cap = 0 ∧ s0.units.dla[0]? = some Dla.reset ∧ Dla.reset.cap = 0
      ∧ s0.units.dll[0]? = some Dll.reset ∧ Dll.reset.cap = 0 := by
  decide +kernel

/-! ### Filters and envelopes -/

/-- setfr with SR unset, with a frequency and with a radius not finite, and with the largest finite values. -/
theorem witness_BiqConfigure :
    s0.units.biq[0]? = some (Biq.reset .binary64) ∧ Fmt.lt .binary64 0#64 0#64 = false ∧ Fmt.lt .binary64 0#64 s0.sr = true
      ∧ Fmt.isFinite .binary64 0x7ff0000000000000#64 = false ∧ Fmt.isFinite .binary64 0x7fefffffffffffff#64 = true := by
  decide +kernel

theorem witness_BiqTickAndLast : s0.units.biq[0]? = some (Biq.reset .binary64) := by decide +kernel
theorem witness_FirstOrderFilters :
    s0.units.opole[0]? = some (Opole.reset .binary64) ∧ s0.units.ozero[0]? = some (Ozero.reset .binary64)
      ∧ s0.units.dcb[0]? = some Dcb.reset := by
  decide +kernel

/-- The basis unset (KR = 0), a NaN operand, and neither. -/
theorem witness_AdsrSettimes :
    s0.units.adsr[0]? = some Adsr.reset ∧ Fmt.lt .binary64 0#64 0#64 = false ∧ s0.params.rateBasis = .kr
      ∧ Fmt.lt .binary64 0#64 s0.kr = true ∧ Fmt.isNaN .binary64 0x7ff8000000000000#64 = true
      ∧ (Fmt.isNaN .binary64 s0.a0 || Fmt.isNaN .binary64 s0.a1 || Fmt.isNaN .binary64 s0.a2 || Fmt.isNaN .binary64 s0.a3)
        = false := by
  decide +kernel

theorem witness_EnvelopeRates :
    s0.units.adsr[0]? = some Adsr.reset ∧ s0.units.env[0]? = some Env.reset
      ∧ Fmt.isNaN .binary64 0x7ff8000000000000#64 = true ∧ Fmt.isNaN .binary64 s0.a0 = false := by
  decide +kernel

theorem witness_EnvelopeSegments : s0.units.adsr[0]? = some Adsr.reset ∧ s0.units.env[0]? = some Env.reset := by
  decide +kernel

theorem witness_EnvelopeTicks : s0.units.adsr[0]? = some Adsr.reset ∧ s0.units.env[0]? = some Env.reset := by
  decide +kernel

/-- Value 0 below, above and at its target, with the least rate 0 and a distance equal to the rate. -/
theorem witness_EnvelopesNeverOvershoot :
    Fmt.isFinite .binary64 0#64 = true ∧ Fmt.isFinite .binary64 0x3ff0000000000000#64 = true
      ∧ Fmt.le .binary64 0#64 0#64 = true ∧ Fmt.le .binary64 0#64 0x3ff0000000000000#64 = true
      ∧ Fmt.lt .binary64 0#64 0x3ff0000000000000#64 = true ∧ Fmt.lt .binary64 0xbff0000000000000#64 0#64 = true
      ∧ Fmt.value .binary64 0x3ff0000000000000#64 - Fmt.value .binary64 0#64 ≤ Fmt.value .binary64 0x3ff0000000000000#64
      ∧ Fmt.lt .binary64 0#64 0#64 = false
      ∧ s0.units.adsr[0]? = some Adsr.reset ∧ Adsr.reset.value = 0#64 ∧ Adsr.reset.target = 0#64 ∧ Adsr.reset.rate = 0#64
      ∧ s0.units.env[0]? = some Env.reset ∧ Env.reset.value = 0#64 ∧ Env.reset.target = 0#64 ∧ Env.reset.rate = 0#64 := by
  decide +kernel

/-! ### Tables, noise, vibrato -/

theorem witness_NonlinearTables :
    s0.units.bow[0]? = some (Bow.reset .binary64) ∧ s0.units.reed[0]? = some (Reed.reset .binary64)
      ∧ s0.units.jet[0]? = some Jet.reset := by
  decide +kernel

/-- The largest finite input, and 0. -/
theorem witness_LookupsSaturate :
    Fmt.isFinite .binary64 0x7fefffffffffffff#64 = true ∧ Fmt.isFinite .binary64 s0.a0 = true
      ∧ s0.units.bow[0]? = some (Bow.reset .binary64) ∧ Fmt.isFinite .binary64 (Bow.reset .binary64).slope = true
      ∧ s0.units.reed[0]? = some (Reed.reset .binary64) ∧ Fmt.isFinite .binary64 (Reed.reset .binary64).offset = true
      ∧ Fmt.isFinite .binary64 (Reed.reset .binary64).slope = true ∧ s0.units.jet[0]? = some Jet.reset := by
  decide +kernel

theorem witness_NoiseCommands : s0.units.noise[0]? = some Noise.reset := by decide +kernel

/-- Table 0 (absent), table 1 (present), SR unset, a frequency not finite, and 0 Hz. -/
theorem witness_VibConfigure :
    s0.units.vib[0]? = some Vib.reset ∧ tableLen s0.tables (0#32).toNat = 0 ∧ tableLen s0.tables (1#32).toNat ≠ 0
      ∧ Fmt.lt .binary64 0#64 0#64 = false ∧ Fmt.lt .binary64 0#64 s0.sr = true
      ∧ Fmt.isFinite .binary64 0x7ff0000000000000#64 = false ∧ Fmt.isFinite .binary64 s0.a0 = true := by
  decide +kernel

theorem witness_VibTickAndLast :
    s0.units.vib[0]? = some Vib.reset ∧ Vib.reset.len = 0 ∧ sized.units.vib[0]? = some vib4 ∧ 0 < vib4.len ∧ vib4.tab ≠ 0#32
      ∧ Assoc.find vib4.tab.toNat sized.tables = some [0#64, 0x3ff0000000000000#64, 0#64, 0xbff0000000000000#64]
      ∧ [0#64, 0x3ff0000000000000#64, 0#64, 0xbff0000000000000#64].length = vib4.len := by
  decide +kernel

/-- m = 1; the greatest number below 1 is in range; 3.0 is a multiple of 1; -2^-60 is finite and rounds up to 1. -/
theorem witness_WrapIsInRange :
    0 < 1 ∧ Fmt.inRange .binary64 0x3fefffffffffffff#64 1 = true
      ∧ Fmt.fit .binary64 0x3fefffffffffffff#64 = 0x3fefffffffffffff#64
      ∧ Fmt.isFinite .binary64 0x4008000000000000#64 = true
      ∧ ((1 * 2 ^ Fmt.unit .binary64 : Nat) : Int) ∣ Fmt.value .binary64 0x4008000000000000#64
      ∧ Fmt.isFinite .binary64 0xbc30000000000000#64 = true ∧ Fmt.wrap .binary64 0xbc30000000000000#64 1 = 0#64 := by
  decide +kernel

/-! ### Models -/

/-- Index 16 and a value not finite are refused; index 15 with 0 is taken. -/
theorem witness_ModelSetctl :
    playing.models.bar[0]? = some barRun ∧ playing.models.clar[0]? = some clarRun ∧ playing.models.flute[0]? = some fluteRun
      ∧ playing.models.bowed[0]? = some bowedRun ∧ playing.models.brass[0]? = some brassRun
      ∧ 15 < (16#32).toNat ∧ (15#32).toNat < 16 ∧ Fmt.isFinite .binary64 0x7ff0000000000000#64 = false
      ∧ Fmt.isFinite .binary64 playing.a0 = true := by
  decide +kernel

/-- Every model running, and every model idle. -/
theorem witness_ModelRelease :
    playing.models.bar[0]? = some barRun ∧ (barKit.hdr barRun).mstate = .running
      ∧ playing.models.clar[0]? = some clarRun ∧ (clarKit.hdr clarRun).mstate = .running
      ∧ playing.models.flute[0]? = some fluteRun ∧ (fluteKit.hdr fluteRun).mstate = .running
      ∧ playing.models.bowed[0]? = some bowedRun ∧ (bowedKit.hdr bowedRun).mstate = .running
      ∧ playing.models.brass[0]? = some brassRun ∧ (brassKit.hdr brassRun).mstate = .running
      ∧ ready.models.bar[0]? = some (Bar.fresh .binary64 noteHdr) ∧ noteHdr.mstate ≠ .running
      ∧ ready.models.clar[0]? = some (Clar.fresh .binary64 noteHdr)
      ∧ ready.models.flute[0]? = some (Flute.fresh .binary64 noteHdr)
      ∧ ready.models.bowed[0]? = some (Bowed.fresh .binary64 noteHdr)
      ∧ ready.models.brass[0]? = some (Brass.fresh .binary64 noteHdr) := by
  decide +kernel

/-- The controls of a note whose LOWFREQ is 2^-10 Hz, so that a period is far more than MAXCAP words. -/
def lowHdr : Hdr := { noteHdr with ctl := noteHdr.ctl.set 2 0x3f50000000000000#64 }

/-- SR unset; no table 0; and a request above MAXCAP at the period factor of FLUTE. -/
theorem witness_InitFailures :
    ¬ ContextSet { ready with sr := 0#64 } ∧ ContextSet ready ∧ TablePresent ready noteHdr ∧ ¬ TablePresent s0 Hdr.reset
      ∧ TablePresent ready lowHdr
      ∧ Fmt.isFinite .binary64
          (Fmt.div .binary64 (Fmt.mul .binary64 (Fmt.lit .binary64 3 2) ready.sr)
            (noteMinF ready lowHdr (Fmt.lit .binary64 1568 1))) = true
      ∧ (ready.params.maxCap : Int)
          < noteRequest ready (Fmt.lit .binary64 3 2) (noteMinF ready lowHdr (Fmt.lit .binary64 1568 1)) + 1 := by
  decide +kernel

/-- The lag, frequency and radius of a BAR branch in `ready` are numbers. -/
def barPlaced (ratio : Flt) : Prop :=
  let f := Fmt.binary64
  let fr := noteFreq f (noteHdr.ctl.get 1) (noteMinF ready noteHdr (f.lit 1568 1)) (f.lit 1568 1)
  f.isNaN (f.div (f.div ready.sr fr) ratio) = false ∧ f.isFinite (f.mul fr ratio) = true
    ∧ f.isFinite (f.sub f.one (f.div (f.mul (f.mul fr ratio) f.pi) ready.sr)) = true

theorem witness_BarInitStarts :
    ready.models.bar[0]? = some (Bar.fresh .binary64 noteHdr)
      ∧ InitReady barKit ready (Bar.fresh .binary64 noteHdr) false ready.params.bar.km (Fmt.lit .binary64 1568 1) 32
      ∧ TimesLegal .binary64 ready.params.bar.times
      ∧ barPlaced (Fmt.lit .binary64 1 1) ∧ barPlaced (Fmt.lit .binary64 2756 1000) ∧ barPlaced (Fmt.lit .binary64 5404 1000)
      ∧ barPlaced (Fmt.lit .binary64 8933 1000) := by
  unfold InitReady barPlaced
  decide +kernel

theorem witness_ClarInitStarts :
    let f := Fmt.binary64
    let fmax := noteFmax ready ready.params.clar.fmax
    let fr := noteFreq f (noteHdr.ctl.get 1) (noteMinF ready noteHdr fmax) fmax
    ready.models.clar[0]? = some (Clar.fresh .binary64 noteHdr)
      ∧ InitReady clarKit ready (Clar.fresh .binary64 noteHdr) true ready.params.clar.km fmax 24 ∧ 1 ≤ 24
      ∧ f.isNaN (f.sub (f.div (f.mul ready.params.clar.lagFactor ready.sr) fr) ready.params.clar.lagOffset) = false
      ∧ f.isFinite (noteHdr.ctl.get 6) = true := by
  unfold InitReady
  decide +kernel

theorem witness_FluteInitStarts :
    let f := Fmt.binary64
    let fmax := noteFmax ready ready.params.flute.fmax
    let fr := noteFreq f (noteHdr.ctl.get 1) (noteMinF ready noteHdr fmax) fmax
    let lag := f.sub (f.div (f.mul (f.lit 3 2) ready.sr) fr) ready.params.flute.lagOffset
    ready.models.flute[0]? = some (Flute.fresh .binary64 noteHdr)
      ∧ InitReady fluteKit ready (Flute.fresh .binary64 noteHdr) true (f.lit 3 2) fmax 34 ∧ 1 ≤ 34
      ∧ TimesLegal f ready.params.flute.times ∧ f.isNaN lag = false ∧ f.isNaN (f.mul lag (noteHdr.ctl.get 9)) = false
      ∧ f.isFinite (noteHdr.ctl.get 6) = true := by
  unfold InitReady
  decide +kernel

theorem witness_BowedInitStarts :
    let f := Fmt.binary64
    let p := ready.params.bowed
    let fmax := noteFmax ready ready.params.bowed.fmax
    let fr := noteFreq f (noteHdr.ctl.get 1) (noteMinF ready noteHdr fmax) fmax
    let base := f.sub (f.div ready.sr fr) p.comp
    ready.models.bowed[0]? = some (Bowed.fresh .binary64 noteHdr)
      ∧ InitReady bowedKit ready (Bowed.fresh .binary64 noteHdr) true p.km fmax 24 ∧ 1 ≤ 24 ∧ TimesLegal f p.times
      ∧ f.isFinite p.bodyFreq = true ∧ f.isFinite p.bodyR = true ∧ f.isNaN (f.mul base (noteHdr.ctl.get 10)) = false
      ∧ f.isNaN (f.mul base (f.sub f.one (noteHdr.ctl.get 10))) = false ∧ f.isFinite (noteHdr.ctl.get 6) = true := by
  unfold InitReady
  decide +kernel

theorem witness_BrassInitStarts :
    let f := Fmt.binary64
    let p := ready.params.brass
    let fmax := noteFmax ready ready.params.brass.fmax
    let fr := noteFreq f (noteHdr.ctl.get 1) (noteMinF ready noteHdr fmax) fmax
    ready.models.brass[0]? = some (Brass.fresh .binary64 noteHdr)
      ∧ InitReady brassKit ready (Brass.fresh .binary64 noteHdr) true p.km fmax 44 ∧ 2 ≤ 44 ∧ TimesLegal f p.times
      ∧ f.isNaN (f.add (f.mul (f.div ready.sr fr) p.lagFactor) p.lagOffset) = false
      ∧ f.isFinite
          (f.mul fr (f.pow ready.params.libm p.lipBase (f.sub (f.mul p.lipScale (noteHdr.ctl.get 9)) p.lipShift))) = true
      ∧ f.isFinite p.lipR = true ∧ f.isFinite (noteHdr.ctl.get 6) = true := by
  unfold InitReady
  decide +kernel

/-- Every model running, in a block of one word, with a control that is no k-rate one; and a RENDER that its control update
abandons. -/
theorem witness_RenderWritesTheBlock :
    playing.models.bar[0]? = some barRun ∧ (barKit.hdr barRun).mstate = .running
      ∧ playing.models.clar[0]? = some clarRun ∧ (clarKit.hdr clarRun).mstate = .running
      ∧ playing.models.flute[0]? = some fluteRun ∧ (fluteKit.hdr fluteRun).mstate = .running
      ∧ playing.models.bowed[0]? = some bowedRun ∧ (bowedKit.hdr bowedRun).mstate = .running
      ∧ playing.models.brass[0]? = some brassRun ∧ (brassKit.hdr brassRun).mstate = .running
      ∧ (got (exec (.barRender 0) playing)).map State.status = some 0#32
      ∧ (got (exec (.brassRender 0) hot)).map State.status = some 0x8081#32
      ∧ (14 : Fin 16) ∉ ([0, 1, 9, 10, 11, 13] : List (Fin 16)) ∧ (4 : Fin 16) ∉ ([0, 1, 6, 7, 8] : List (Fin 16))
      ∧ (4 : Fin 16) ∉ ([0, 1, 6, 7, 8, 9, 10, 11] : List (Fin 16)) ∧ (4 : Fin 16) ∉ ([0, 1, 6, 7, 9, 10] : List (Fin 16))
      ∧ (4 : Fin 16) ∉ ([0, 1, 6, 7, 9] : List (Fin 16)) := by
  decide +kernel

/-- Every model steady; the counters are -1, so no release fires. -/
theorem witness_RenderBlocksCompose :
    (playing.models.bar[0]? = some barRun ∧ Steady barKit [0, 1, 9, 10, 11, 13] barRun ∧ (barKit.hdr barRun).counter ≠ 2)
      ∧ (playing.models.clar[0]? = some clarRun ∧ Steady clarKit [0, 1, 6, 7, 8] clarRun ∧ (clarKit.hdr clarRun).counter ≠ 2)
      ∧ (playing.models.flute[0]? = some fluteRun ∧ Steady fluteKit [0, 1, 6, 7, 8, 9, 10, 11] fluteRun
        ∧ (fluteKit.hdr fluteRun).counter ≠ 2)
      ∧ (playing.models.bowed[0]? = some bowedRun ∧ Steady bowedKit [0, 1, 6, 7, 9, 10] bowedRun
        ∧ (bowedKit.hdr bowedRun).counter ≠ 2)
      ∧ (playing.models.brass[0]? = some brassRun ∧ Steady brassKit [0, 1, 6, 7, 9] brassRun
        ∧ (brassKit.hdr brassRun).counter ≠ 2)
      ∧ 1 + 1 < 2 ^ 32 := by
  unfold Steady
  decide +kernel

/-- Every model running, its caches clean, its release rate a number. -/
theorem witness_ReleaseMakesEnvelopeFall :
    playing.models.bar[0]? = some barRun ∧ (barKit.hdr barRun).mstate = .running
      ∧ playing.models.clar[0]? = some clarRun ∧ (clarKit.hdr clarRun).mstate = .running
      ∧ playing.models.flute[0]? = some fluteRun ∧ (fluteKit.hdr fluteRun).mstate = .running
      ∧ playing.models.bowed[0]? = some bowedRun ∧ (bowedKit.hdr bowedRun).mstate = .running
      ∧ playing.models.brass[0]? = some brassRun ∧ (brassKit.hdr brassRun).mstate = .running
      ∧ (∀ x ∈ ([0, 1, 9, 10, 11, 13] : List (Fin 16)), (barKit.hdr barRun).cache.get x = (barKit.hdr barRun).ctl.get x)
      ∧ (∀ x ∈ ([0, 1, 6, 7, 8] : List (Fin 16)), (clarKit.hdr clarRun).cache.get x = (clarKit.hdr clarRun).ctl.get x)
      ∧ (∀ x ∈ ([0, 1, 6, 7, 8, 9, 10, 11] : List (Fin 16)), (fluteKit.hdr fluteRun).cache.get x = (fluteKit.hdr fluteRun).ctl.get x)
      ∧ (∀ x ∈ ([0, 1, 6, 7, 9, 10] : List (Fin 16)), (bowedKit.hdr bowedRun).cache.get x = (bowedKit.hdr bowedRun).ctl.get x)
      ∧ (∀ x ∈ ([0, 1, 6, 7, 9] : List (Fin 16)), (brassKit.hdr brassRun).cache.get x = (brassKit.hdr brassRun).ctl.get x)
      ∧ Fmt.isNaN .binary64 (fallRate playing clarRun.hdr) = false ∧ Fmt.isNaN .binary64 (fallRate playing fluteRun.hdr) = false
      ∧ Fmt.isNaN .binary64 (fallRate playing brassRun.hdr) = false := by
  decide +kernel

/-- The models with controls to update, in a RENDER of no samples. -/
def barDirty : Bar := { barRun with hdr := { dirtyHdr with ctl := dirtyHdr.ctl.set 11 0x3ff0000000000000#64 } }
def clarDirty : Clar := { clarRun with hdr := dirtyHdr }
def fluteDirty : Flute := { fluteRun with hdr := dirtyHdr }
def bowedDirty : Bowed := { bowedRun with hdr := dirtyHdr }
def brassDirty : Brass := { brassRun with hdr := dirtyHdr }
def updating : State :=
  { playing with iarg := 0#32, models := ⟨[barDirty], [clarDirty], [fluteDirty], [bowedDirty], [brassDirty]⟩ }

/-- The lag, frequency and radius of a branch of `barDirty` are numbers. -/
def barTunable (ratio : Flt) : Prop :=
  let f := Fmt.binary64
  let fr := noteFreq f (barDirty.hdr.ctl.get 1) barDirty.hdr.minF (f.lit 1568 1)
  f.isNaN (f.div (f.div updating.sr fr) ratio) = false ∧ f.isFinite (f.mul fr ratio) = true
    ∧ f.isFinite (f.sub f.one (f.div (f.mul (f.mul fr ratio) f.pi) updating.sr)) = true

/-- A sample with TRACKVEL as INIT read it 0, and 1; a control update of all its controls, and of none. -/
theorem witness_BarSample :
    let tracking : Bar := { barRun with hdr := { running with iCtl := running.iCtl.set 12 0x3ff0000000000000#64 } }
    (playing.models.bar[0]? = some barRun ∧ Steady barKit [0, 1, 9, 10, 11, 13] barRun ∧ playing.iarg = 1#32
        ∧ Fmt.eq .binary64 (barRun.hdr.iCtl.get 12) 0#64 = true)
      ∧ (Steady barKit [0, 1, 9, 10, 11, 13] tracking ∧ Fmt.eq .binary64 (tracking.hdr.iCtl.get 12) 0#64 = false)
      ∧ (updating.models.bar[0]? = some barDirty ∧ Updates barKit updating barDirty
        ∧ (barDirty.hdr.dirty 0 ∧ barDirty.hdr.dirty 1 ∧ barDirty.hdr.dirty 9 ∧ barDirty.hdr.dirty 10 ∧ barDirty.hdr.dirty 11)
        ∧ Fmt.lt .binary64 0#64 updating.sr = true ∧ 0 < line4.cap
        ∧ barTunable (Fmt.lit .binary64 1 1) ∧ barTunable (Fmt.lit .binary64 2756 1000) ∧ barTunable (Fmt.lit .binary64 5404 1000)
        ∧ barTunable (Fmt.lit .binary64 8933 1000))
      ∧ Updates barKit { playing with iarg := 0#32 } barRun ∧ ¬ barRun.hdr.dirty 1 := by
  unfold Steady Updates barTunable
  decide +kernel

theorem witness_ClarSample :
    let f := Fmt.binary64
    let fmax := noteFmax updating updating.params.clar.fmax
    let fr := noteFreq f (clarDirty.hdr.ctl.get 1) clarDirty.hdr.minF fmax
    (playing.models.clar[0]? = some clarRun ∧ Steady clarKit [0, 1, 6, 7, 8] clarRun ∧ 0 < clarRun.vb.len ∧ playing.iarg = 1#32)
      ∧ (updating.models.clar[0]? = some clarDirty ∧ Updates clarKit updating clarDirty
        ∧ (clarDirty.hdr.dirty 0 ∧ clarDirty.hdr.dirty 1 ∧ clarDirty.hdr.dirty 6) ∧ clarDirty.env.phase ≠ .attack
        ∧ 0 < clarDirty.dl.cap
        ∧ f.isNaN (f.sub (f.div (f.mul updating.params.clar.lagFactor updating.sr) fr) updating.params.clar.lagOffset) = false
        ∧ f.lt 0#64 updating.sr = true ∧ f.isFinite (clarDirty.hdr.ctl.get 6) = true)
      ∧ Updates clarKit { playing with iarg := 0#32 } clarRun ∧ ¬ clarRun.hdr.dirty 1 := by
  unfold Steady Updates
  decide +kernel

theorem witness_FluteSample :
    let f := Fmt.binary64
    let fmax := noteFmax updating updating.params.flute.fmax
    let fr := noteFreq f (fluteDirty.hdr.ctl.get 1) fluteDirty.hdr.minF fmax
    let lag := f.sub (f.div (f.mul (f.lit 3 2) updating.sr) fr) updating.params.flute.lagOffset
    (playing.models.flute[0]? = some fluteRun ∧ Steady fluteKit [0, 1, 6, 7, 8, 9, 10, 11] fluteRun ∧ 0 < fluteRun.vb.len
        ∧ playing.iarg = 1#32)
      ∧ (updating.models.flute[0]? = some fluteDirty ∧ Updates fluteKit updating fluteDirty
        ∧ (fluteDirty.hdr.dirty 0 ∧ fluteDirty.hdr.dirty 1 ∧ fluteDirty.hdr.dirty 6 ∧ fluteDirty.hdr.dirty 9)
        ∧ 0 < fluteDirty.bore.cap ∧ 0 < fluteDirty.jet.cap ∧ f.isNaN lag = false
        ∧ f.isNaN (f.mul lag (fluteDirty.hdr.ctl.get 9)) = false
        ∧ f.lt 0#64 updating.sr = true ∧ f.isFinite (fluteDirty.hdr.ctl.get 6) = true)
      ∧ Updates fluteKit { playing with iarg := 0#32 } fluteRun ∧ ¬ (fluteRun.hdr.dirty 1 ∨ fluteRun.hdr.dirty 9) := by
  unfold Steady Updates
  decide +kernel

/-- A steady BOWED with VIBAMT 1, and one whose base period is a NaN. -/
def bowedMoving : Bowed := { bowedRun with hdr := { noteHdr with mstate := .running, cache := noteHdr.ctl } }
def bowedNaN : Bowed := { bowedMoving with base := 0x7ff8000000000000#64 }

/-- The samples: VIBAMT 0; VIBAMT 1; VIBAMT 1 with a NaN lag. -/
theorem witness_BowedSample :
    let f := Fmt.binary64
    (playing.models.bowed[0]? = some bowedRun ∧ Steady bowedKit [0, 1, 6, 7, 9, 10] bowedRun ∧ playing.iarg = 1#32
        ∧ f.eq (bowedRun.hdr.ctl.get 7) 0#64 = true)
      ∧ (Steady bowedKit [0, 1, 6, 7, 9, 10] bowedMoving ∧ f.eq (bowedMoving.hdr.ctl.get 7) 0#64 = false ∧ 0 < bowedMoving.vb.len
        ∧ 0 < bowedMoving.nut.cap
        ∧ f.isNaN
            (f.add (f.mul bowedMoving.base (f.sub f.one (bowedMoving.hdr.ctl.get 10)))
              (f.mul (f.mul bowedMoving.base (bowedMoving.hdr.ctl.get 7)) (vibStep playing bowedMoving.vb playing.free).1)) = false)
      ∧ (Steady bowedKit [0, 1, 6, 7, 9, 10] bowedNaN ∧ f.eq (bowedNaN.hdr.ctl.get 7) 0#64 = false ∧ 0 < bowedNaN.vb.len) := by
  unfold Steady
  decide +kernel

/-- A control update of all the controls of BOWED, and of none. -/
theorem witness_BowedSample_update :
    let f := Fmt.binary64
    let fmax := noteFmax updating updating.params.bowed.fmax
    let fr := noteFreq f (bowedDirty.hdr.ctl.get 1) bowedDirty.hdr.minF fmax
    let base := f.sub (f.div updating.sr fr) updating.params.bowed.comp
    (updating.models.bowed[0]? = some bowedDirty ∧ Updates bowedKit updating bowedDirty
        ∧ (bowedDirty.hdr.dirty 0 ∧ bowedDirty.hdr.dirty 1 ∧ bowedDirty.hdr.dirty 6 ∧ bowedDirty.hdr.dirty 9 ∧ bowedDirty.hdr.dirty 10)
        ∧ 0 < bowedDirty.nut.cap ∧ 0 < bowedDirty.bridge.cap ∧ f.isNaN (f.mul base (bowedDirty.hdr.ctl.get 10)) = false
        ∧ f.isNaN (f.mul base (f.sub f.one (bowedDirty.hdr.ctl.get 10))) = false
        ∧ f.lt 0#64 updating.sr = true ∧ f.isFinite (bowedDirty.hdr.ctl.get 6) = true)
      ∧ Updates bowedKit { playing with iarg := 0#32 } bowedRun ∧ ¬ (bowedRun.hdr.dirty 1 ∨ bowedRun.hdr.dirty 10) := by
  unfold Updates
  decide +kernel

/-- The last premise of the NaN clause: the lag of `bowedNaN` is a NaN whatever free value it takes. -/
theorem witness_BowedSample_nan :
    let f := Fmt.binary64
    f.isNaN
      (f.add (f.mul bowedNaN.base (f.sub f.one (bowedNaN.hdr.ctl.get 10)))
        (f.mul (f.mul bowedNaN.base (bowedNaN.hdr.ctl.get 7)) (vibStep playing bowedNaN.vb playing.free).1)) = true :=
  Fmt.isNaN_add_left (Fmt.isNaN_mul_left (by decide +kernel) _) _

/-- A control update of all the controls BRASS reads, of LIPTENSION alone, and of none. -/
theorem witness_BrassSample :
    let f := Fmt.binary64
    let p := updating.params.brass
    let fmax := noteFmax updating updating.params.brass.fmax
    let fr := noteFreq f (brassDirty.hdr.ctl.get 1) brassDirty.hdr.minF fmax
    let lip : Hdr := { brassDirty.hdr with cache := brassDirty.hdr.ctl.set 9 0#64 }
    (playing.models.brass[0]? = some brassRun ∧ Steady brassKit [0, 1, 6, 7, 9] brassRun ∧ 0 < brassRun.vb.len
        ∧ playing.iarg = 1#32)
      ∧ (updating.models.brass[0]? = some brassDirty ∧ Updates brassKit updating brassDirty
        ∧ (brassDirty.hdr.dirty 0 ∧ brassDirty.hdr.dirty 1 ∧ brassDirty.hdr.dirty 6 ∧ brassDirty.hdr.dirty 9)
        ∧ 0 < brassDirty.bore.cap ∧ f.isNaN (f.add (f.mul (f.div updating.sr fr) p.lagFactor) p.lagOffset) = false
        ∧ f.isFinite
            (f.mul fr (f.pow updating.params.libm p.lipBase (f.sub (f.mul p.lipScale (brassDirty.hdr.ctl.get 9)) p.lipShift))) = true
        ∧ f.isFinite p.lipR = true ∧ f.lt 0#64 updating.sr = true ∧ f.isFinite (brassDirty.hdr.ctl.get 6) = true)
      ∧ (Updates brassKit updating { brassDirty with hdr := lip } ∧ lip.dirty 9 ∧ ¬ lip.dirty 1)
      ∧ Updates brassKit { playing with iarg := 0#32 } brassRun ∧ ¬ (brassRun.hdr.dirty 1 ∨ brassRun.hdr.dirty 9) := by
  unfold Steady Updates
  decide +kernel

end Sys2Proof.Machine.Tests

end
end

/-! PROOFS. 00_scope.md: `fmod_wrap` (R11), and what the machine holds right after reset (R8, 10_state.md R31, R33, R38, R48). -/

namespace Sys2Proof.Fmt

/-! ### The parts of a datum -/

theorem prec_pos (f : Fmt) : 0 < f.prec := by cases f <;> decide

@[simp] theorem sign_pack (f : Fmt) (s : Bool) (m : Nat) : f.sign (f.pack s m) = s := by
  cases f <;> cases s <;> simp [sign, pack, width] <;> omega

/-- A datum is packed from its sign and magnitude. -/
theorem pack_sign_mag (f : Fmt) (x : Flt) : f.pack (f.sign x) (f.mag x) = f.fit x := by
  apply BitVec.eq_of_toNat_eq
  cases f <;> simp only [pack, sign, mag, fit, width, BitVec.toNat_ofNat, beq_iff_eq] <;> split <;> omega

/-- A datum is in [0, m) when it is a number without a minus sign whose value is below `m`. -/
theorem inRange_iff {f : Fmt} {v : Flt} {m : Nat} :
    f.inRange v m = true
      ↔ f.isFinite v = true ∧ f.sign v = false ∧ f.value v < ((m * 2 ^ f.unit : Nat) : Int) := by
  simp only [inRange, Bool.and_eq_true, Bool.not_eq_true', decide_eq_true_eq, and_assoc]
  refine and_congr_right fun _ => and_congr_right fun hs => ?_
  simp only [value, hs, Bool.false_eq_true, if_false, Int.ofNat_lt]

/-! ### Rounding leaves a number of the format as it is -/

/-- The exponent rounding picks for a significand `q` scaled by `2 ^ k`: a subnormal has exponent 0, any other number a
significand of `prec` bits. -/
theorem exponent_of_significand {f : Fmt} {q k : Nat} (hq : q < 2 ^ f.prec) (hk : k = 0 ∨ 2 ^ (f.prec - 1) ≤ q) :
    Nat.log2 (q * 2 ^ k) + 1 - f.prec = k := by
  have hp := f.prec_pos
  rcases hk with rfl | hle
  · rcases Nat.eq_zero_or_pos q with rfl | h0
    · simp only [Nat.zero_mul, Nat.log2_zero]
      omega
    · have := (Nat.log2_lt h0.ne').mpr hq
      rw [pow_zero, Nat.mul_one]
      omega
  · have h0 : q * 2 ^ k ≠ 0 := (Nat.mul_pos (lt_of_lt_of_le (Nat.two_pow_pos _) hle) (Nat.two_pow_pos k)).ne'
    have hlog : Nat.log2 (q * 2 ^ k) = f.prec - 1 + k := by
      refine (Nat.log2_eq_iff h0).mpr ⟨?_, ?_⟩
      · rw [pow_add]
        exact Nat.mul_le_mul_right _ hle
      · rw [show f.prec - 1 + k + 1 = f.prec + k by omega, pow_add]
        exact Nat.mul_lt_mul_of_pos_right hq (Nat.two_pow_pos k)
    omega

/-- A significand that fits in `prec` bits is rounded without error. -/
theorem roundMag_significand {f : Fmt} {q k : Nat} (hq : q < 2 ^ f.prec) (hk : k = 0 ∨ 2 ^ (f.prec - 1) ≤ q) :
    f.roundMag (q * 2 ^ k) 1 = min (k * 2 ^ (f.prec - 1) + q) f.infMag := by
  have he := Nat.two_pow_pos k
  simp only [roundMag, Nat.div_one, exponent_of_significand hq hk, Nat.one_mul, Nat.mul_div_cancel q he, Nat.mul_mod_left]
  rw [if_neg (by omega)]

/-- Magnitude bits are an exponent and a significand, and count `q * 2 ^ k` smallest subnormals. -/
theorem scaled_eq_significand (f : Fmt) (m : Nat) :
    ∃ q k, f.scaled m = q * 2 ^ k ∧ m = k * 2 ^ (f.prec - 1) + q ∧ q < 2 ^ f.prec ∧ (k = 0 ∨ 2 ^ (f.prec - 1) ≤ q) := by
  have hprec : 2 ^ f.prec = 2 * 2 ^ (f.prec - 1) := by rw [← pow_succ', Nat.sub_add_cancel f.prec_pos]
  have hh := Nat.mod_lt m (Nat.two_pow_pos (f.prec - 1))
  have hm := Nat.div_add_mod' m (2 ^ (f.prec - 1))
  rcases he : m / 2 ^ (f.prec - 1) with _ | e
  · rw [he] at hm
    exact ⟨m % 2 ^ (f.prec - 1), 0, by simp [scaled, he], by omega, by omega, .inl rfl⟩
  · rw [he, Nat.succ_mul] at hm
    exact ⟨m % 2 ^ (f.prec - 1) + 2 ^ (f.prec - 1), e, by simp [scaled, he], by omega, by omega, .inr (by omega)⟩

/-- Rounding the exact count of a number gives its magnitude bits back. -/
theorem roundMag_scaled {f : Fmt} {m : Nat} (h : m ≤ f.infMag) : f.roundMag (f.scaled m) 1 = m := by
  obtain ⟨q, k, hs, hm, hq, hk⟩ := f.scaled_eq_significand m
  rw [hs, roundMag_significand hq hk, ← hm, Nat.min_eq_left h]

/-- A number of the format without a minus sign is its value rounded. -/
theorem ofScaled_value {f : Fmt} {x : Flt} (hfin : f.isFinite x = true) (hs : f.sign x = false) (hfit : f.fit x = x) :
    f.ofScaled (f.value x) 1 = x := by
  have hmag : f.mag x ≤ f.infMag := Nat.le_of_lt (of_decide_eq_true hfin)
  have hval : f.value x = (f.scaled (f.mag x) : Int) := by simp [value, hs]
  have hneg : decide (f.value x < 0) = f.sign x := by simp [hval, hs]
  rw [ofScaled, hneg, hval, Int.natAbs_natCast, roundMag_scaled hmag, pack_sign_mag, hfit]

theorem value_nonneg {f : Fmt} {x : Flt} (hs : f.sign x = false) : 0 ≤ f.value x := by simp [value, hs]

@[simp] theorem ofScaled_zero (f : Fmt) : f.ofScaled 0 1 = Flt.zero := by cases f <;> decide

/-! ### fmod_wrap (R11) -/

/-- The representative of `p` in [0, m), computed exactly and rounded once: what `wrap` answers where it is in range. -/
def representative (f : Fmt) (p : Flt) (m : Nat) : Flt := f.ofScaled (f.value p % ((m * 2 ^ f.unit : Nat) : Int)) 1

/-- The remainder by a positive modulus is not negative, so its rounding has no minus sign. -/
theorem sign_representative (f : Fmt) (p : Flt) {m : Nat} (hm : 0 < m) : f.sign (f.representative p m) = false := by
  have hM : ((m * 2 ^ f.unit : Nat) : Int) ≠ 0 :=
    Int.natCast_ne_zero.mpr (Nat.mul_pos hm (Nat.two_pow_pos _)).ne'
  rw [representative, ofScaled, sign_pack]
  exact decide_eq_false (Int.not_lt.mpr (Int.emod_nonneg _ hM))

/-- Wrapping a number gives its representative, or +0 where rounding has left [0, m); that can only be at the upper bound. -/
theorem wrap_of_isFinite {f : Fmt} {p : Flt} {m : Nat} (hm : 0 < m) (hp : f.isFinite p = true) :
    f.wrap p m =
      if f.isFinite (f.representative p m) = true ∧ f.value (f.representative p m) < ((m * 2 ^ f.unit : Nat) : Int)
      then f.representative p m else Flt.zero := by
  have hwrap : f.wrap p m = if f.inRange (f.representative p m) m then f.representative p m else Flt.zero := by
    rw [wrap, if_pos hp]
    rfl
  simp only [hwrap, inRange_iff, sign_representative f p hm, true_and]

/-- A number of the format in [0, m) is its own representative. -/
theorem representative_of_inRange {f : Fmt} {p : Flt} {m : Nat} (h : f.inRange p m = true) (hfit : f.fit p = p) :
    f.representative p m = p := by
  obtain ⟨hfin, hs, hlt⟩ := inRange_iff.mp h
  rw [representative, Int.emod_eq_of_lt (value_nonneg hs) hlt, ofScaled_value hfin hs hfit]

/-- The representative of a multiple of `m` is +0. -/
theorem representative_of_dvd {f : Fmt} {p : Flt} {m : Nat} (hd : ((m * 2 ^ f.unit : Nat) : Int) ∣ f.value p) :
    f.representative p m = Flt.zero := by
  rw [representative, Int.emod_eq_zero_of_dvd hd, ofScaled_zero]

/-- A number of the format that is already in [0, m) is kept. -/
theorem wrap_of_inRange {f : Fmt} {p : Flt} {m : Nat} (hm : 0 < m) (h : f.inRange p m = true) (hfit : f.fit p = p) :
    f.wrap p m = p := by
  obtain ⟨hfin, -, hlt⟩ := inRange_iff.mp h
  rw [wrap_of_isFinite hm hfin, representative_of_inRange h hfit, if_pos ⟨hfin, hlt⟩]

/-- Every multiple of `m` wraps to +0. -/
theorem wrap_of_dvd {f : Fmt} {p : Flt} {m : Nat} (hm : 0 < m) (hp : f.isFinite p = true)
    (hd : ((m * 2 ^ f.unit : Nat) : Int) ∣ f.value p) : f.wrap p m = Flt.zero := by
  rw [wrap_of_isFinite hm hp, representative_of_dvd hd, ite_self]

/-- Settles O44: the range is `wrap_inRange`; the other clauses rest on the one equation `wrap` has on numbers, the second because
rounding gives a number of the format back, the third because the representative is 0. -/
theorem wrapIsInRange : Obligations.WrapIsInRange := fun f p _ hm =>
  ⟨wrap_inRange f p hm, wrap_of_inRange hm, wrap_of_dvd hm, wrap_of_isFinite hm⟩

end Sys2Proof.Fmt

namespace Sys2Proof.Machine

/-! ### The units and models at reset are well formed -/

/-- An unsized line is well formed whatever MAXCAP is. -/
theorem lineWf_unsized (mc : Nat) : LineWf mc 0 0 0 [] :=
  ⟨rfl, Nat.zero_le mc, fun _ => ⟨rfl, rfl⟩, fun h => absurd h (Nat.lt_irrefl 0)⟩

theorem Dln.reset_wf (mc : Nat) : Dln.reset.Wf mc := lineWf_unsized mc
theorem Dla.reset_wf (mc : Nat) : Dla.reset.Wf mc := lineWf_unsized mc
theorem Dll.reset_wf (mc : Nat) : Dll.reset.Wf mc := lineWf_unsized mc
theorem Vib.reset_wf (f : Fmt) : Vib.reset.Wf f := ⟨fun _ => rfl, fun h => absurd h (Nat.lt_irrefl 0)⟩

/-- A model at reset is IDLE, so nothing of it has to be sized. -/
theorem sized_reset (caps : List Nat) : Sized Hdr.reset caps := fun h => nomatch h

theorem Bar.reset_wf (f : Fmt) (mc : Nat) : (Bar.reset f).Wf mc :=
  ⟨Dln.reset_wf mc, Dln.reset_wf mc, Dln.reset_wf mc, Dln.reset_wf mc, sized_reset _⟩
theorem Clar.reset_wf (f : Fmt) (mc : Nat) : (Clar.reset f).Wf f mc :=
  ⟨Dll.reset_wf mc, Vib.reset_wf f, sized_reset _⟩
theorem Flute.reset_wf (f : Fmt) (mc : Nat) : (Flute.reset f).Wf f mc :=
  ⟨Dll.reset_wf mc, Dll.reset_wf mc, Vib.reset_wf f, sized_reset _⟩
theorem Bowed.reset_wf (f : Fmt) (mc : Nat) : (Bowed.reset f).Wf f mc :=
  ⟨Dll.reset_wf mc, Dll.reset_wf mc, Vib.reset_wf f, sized_reset _⟩
theorem Brass.reset_wf (f : Fmt) (mc : Nat) : (Brass.reset f).Wf f mc :=
  ⟨Dla.reset_wf mc, Vib.reset_wf f, sized_reset _⟩

/-- What holds of one unit at reset holds of a whole bank of them. -/
theorem forall_mem_bank {α : Type} {P : α → Prop} {a : α} (n : Nat) (h : P a) : ∀ u ∈ List.replicate n a, P u :=
  List.forall_mem_replicate.mpr (.inr h)

/-- Reset is well formed with any parameters and any counts. -/
theorem State.resetWith_unitsWf (p : Params) (n : Counts) : (State.resetWith p n).UnitsWf :=
  ⟨forall_mem_bank _ (Dln.reset_wf _), forall_mem_bank _ (Dla.reset_wf _), forall_mem_bank _ (Dll.reset_wf _),
    forall_mem_bank _ (Vib.reset_wf _), forall_mem_bank _ (Bar.reset_wf _ _), forall_mem_bank _ (Clar.reset_wf _ _),
    forall_mem_bank _ (Flute.reset_wf _ _), forall_mem_bank _ (Bowed.reset_wf _ _), forall_mem_bank _ (Brass.reset_wf _ _)⟩

theorem State.resetWith_statusWf (p : Params) (n : Counts) : (State.resetWith p n).StatusWf := BitVec.zero_and

/-- SR and KR are unset. -/
theorem State.resetWith_contextWf (p : Params) (n : Counts) : (State.resetWith p n).ContextWf := ⟨.inl rfl, .inl rfl⟩

/-! ### The controls as INIT read them -/

theorem Hdr.reset_iCtl (k : Fin 16) : Hdr.reset.iCtl.get k = 0#64 := by
  simp [Hdr.reset, Vector.get, Flt.zero]

theorem Models.ofCount_iNotRead (f : Fmt) (n : Counts) : (Models.ofCount f n).INotRead where
  bar := forall_mem_bank _ Hdr.reset_iCtl
  clar := forall_mem_bank _ Hdr.reset_iCtl
  flute := forall_mem_bank _ Hdr.reset_iCtl
  bowed := forall_mem_bank _ Hdr.reset_iCtl
  brass := forall_mem_bank _ Hdr.reset_iCtl

/-! ### The defaults of R8 -/

/-- The default parameters are legal, in both formats. -/
theorem Params.standard_legal (f : Fmt) : (Params.standard f).legal = true := by cases f <;> decide +kernel

theorem State.reset_instances :
    ∀ cls ∈ [1, 2, 3, 4, 5, 6, 7, 8, 9, 10, 11, 12, 13, 14, 16, 17, 18, 19, 20], State.reset.instances cls = 4 := by decide

/-- Settles O19: unsized lines, unloaded vibratos and IDLE models are well formed, and the host's side is empty. -/
theorem resetMeetsInvariants : Obligations.ResetMeetsInvariants :=
  ⟨State.resetWith_unitsWf _ _, State.resetWith_statusWf _ _, State.reset_memory, State.resetWith_contextWf _ _,
    Params.standard_legal _, Models.ofCount_iNotRead _ _, State.reset_instances⟩

end Sys2Proof.Machine

/-! PROOFS. 10_state.md: what every command does outside the banks of instances (R31-R34), and that every step keeps the delay
lines, the vibrato phases and the RUNNING models well formed (R38-R40, R48, R276, R293). -/

namespace Sys2Proof.Machine

/-! ### The bits a rule may set (R33, R34) -/

/-- The bits `w` are warnings: bits 0-2 alone (R33). -/
def IsWarning (w : U32) : Prop := w &&& ~~~0x7#32 = 0#32

/-- The error bits 3-7; a raised rule sets one of them (R33, R34). -/
def errorBits : List U32 := [0x8#32, 0x10#32, 0x20#32, 0x40#32, 0x80#32]

theorem IsWarning.none : IsWarning 0#32 := rfl
theorem isWarning_clamp : IsWarning warnClamp := rfl
theorem isWarning_floor : IsWarning warnFloor := rfl
theorem isWarning_rate : IsWarning warnRate := rfl

theorem IsWarning.or {w w' : U32} (h : IsWarning w) (h' : IsWarning w') : IsWarning (w ||| w') := by
  unfold IsWarning at *
  rw [BitVec.and_or_distrib_right, h, h', BitVec.or_zero]

theorem IsWarning.ite {w w' : U32} (h : IsWarning w) (h' : IsWarning w') {b : Prop} [Decidable b] :
    IsWarning (if b then w else w') := by
  split <;> assumption

/-- A mask within another one reads 0 where the other does. -/
theorem and_eq_zero_of_mask {x m m' : U32} (h : x &&& m = 0#32) (hm : m &&& m' = m') : x &&& m' = 0#32 := by
  rw [← hm, ← BitVec.and_assoc, h, BitVec.zero_and]

/-- Warnings never set CMD_FAIL. -/
theorem IsWarning.cmdFail {w : U32} (h : IsWarning w) : w &&& 0x8000#32 = 0#32 := and_eq_zero_of_mask h (by decide)

/-- Warnings are defined bits. -/
theorem IsWarning.defined {w : U32} (h : IsWarning w) : w &&& ~~~statusDefined = 0#32 := and_eq_zero_of_mask h (by decide)

/-- What an abandoned command sets are defined bits. -/
theorem abandon_defined {w e : U32} (hw : IsWarning w) (he : e ∈ errorBits) :
    (w ||| e ||| cmdFail) &&& ~~~statusDefined = 0#32 := by
  have herr : (e ||| cmdFail) &&& ~~~statusDefined = 0#32 := by fin_cases he <;> rfl
  rw [BitVec.or_assoc, BitVec.and_or_distrib_right, hw.defined, herr, BitVec.or_zero]

theorem ne_zero_of_mem_errorBits {e : U32} (he : e ∈ errorBits) : e ≠ 0#32 := by
  rintro rfl
  revert he
  decide

/-! ### STATUS after a command (R34) -/

/-- A command that sets the bits `b` ends with CMD_FAIL set only where it is one of them. -/
theorem State.after_cmdFail (s : State) (b : U32) : (s.after b).status &&& 0x8000#32 = b &&& 0x8000#32 := by
  rw [State.after_status, BitVec.and_or_distrib_right, BitVec.and_assoc, show ~~~0x8000#32 &&& 0x8000#32 = 0#32 by decide,
    BitVec.and_zero, BitVec.zero_or]

/-- Setting defined bits leaves the reserved ones 0 (R33). -/
theorem State.after_statusWf {s : State} {b : U32} (hs : s.StatusWf) (hb : b &&& ~~~statusDefined = 0#32) :
    (s.after b).StatusWf := by
  show ((s.status &&& ~~~0x8000#32) ||| b) &&& ~~~statusDefined = 0#32
  rw [BitVec.and_or_distrib_right, hb, BitVec.or_zero, BitVec.and_assoc, BitVec.and_comm (~~~0x8000#32), ← BitVec.and_assoc, hs,
    BitVec.zero_and]

/-- A bit of `x` that a wider `x ||| b` lacks is no bit at all. -/
theorem and_not_or_self (x m b : U32) : x &&& m &&& ~~~(x ||| b) = 0#32 := by
  ext i hi
  cases hx : x[i] <;> simp [hx]

/-- Setting bits leaves the sticky bits 0-7 set (R34). -/
theorem State.after_sticky (s : State) (b : U32) : s.status &&& 0xFF#32 &&& ~~~(s.after b).status = 0#32 := by
  have hkeep : s.status &&& 0xFF#32 = s.status &&& ~~~0x8000#32 &&& 0xFF#32 := by
    rw [BitVec.and_assoc, show ~~~0x8000#32 &&& 0xFF#32 = 0xFF#32 by decide]
  rw [State.after_status, hkeep, and_not_or_self]

/-! ### What a rule may answer -/

/-- A rule of a unit behaves: where it completes it sets warnings alone and `P` holds of its value, where it raises it has set
no warning and raises one error bit (60_exceptions.md R361, R363). -/
inductive Res.Meets {α : Type} (P : α → Prop) : Res α → Prop where
  | ok {w : U32} {a : α} (hw : IsWarning w) (ha : P a) : Meets P (.ok w a)
  | raise {e : U32} (he : e ∈ errorBits) : Meets P (.raise 0 e)

/-- A rule that completes without a warning. -/
theorem Res.Meets.done {α : Type} {P : α → Prop} {a : α} (ha : P a) : (Res.ok 0 a).Meets P := .ok .none ha

theorem Res.Meets.imp {α : Type} {P Q : α → Prop} {r : Res α} (h : r.Meets P) (hpq : ∀ a, P a → Q a) : r.Meets Q := by
  cases h with
  | ok hw ha => exact .ok hw (hpq _ ha)
  | raise he => exact .raise he

/-- What is known of every completed answer may be added. -/
theorem Res.Meets.and_of_ok {α : Type} {P Q : α → Prop} {r : Res α} (h : r.Meets P) (hq : ∀ w a, r = .ok w a → Q a) :
    r.Meets Q := by
  cases h with
  | ok hw ha => exact .ok hw (hq _ _ rfl)
  | raise he => exact .raise he

theorem Res.Meets.require {α : Type} {P : α → Prop} {cond : Bool} {err : U32} {r : Res α} (he : err ∈ errorBits)
    (h : cond = true → r.Meets P) : (Res.require cond err r).Meets P := by
  cases cond with
  | false => exact .raise he
  | true => exact h rfl

/-- A rule that refuses its operand under a condition and else completes without a warning. -/
theorem Res.Meets.guard {α : Type} {P : α → Prop} {cond : Prop} [Decidable cond] {err : U32} {a : α} (he : err ∈ errorBits)
    (ha : P a) : (if cond then .raise 0 err else .ok 0 a : Res α).Meets P := by
  split
  · exact .raise he
  · exact .done ha

theorem Res.Meets.map {α β : Type} {P : β → Prop} {g : α → β} {r : Res α} (h : r.Meets fun a => P (g a)) :
    (r.map g).Meets P := by
  cases h with
  | ok hw ha => exact .ok hw ha
  | raise he => exact .raise he

theorem errUnsized_mem : errUnsized ∈ errorBits := by decide
theorem errNotable_mem : errNotable ∈ errorBits := by decide
theorem errIllegal_mem : errIllegal ∈ errorBits := by decide
theorem errState_mem : errState ∈ errorBits := by decide
theorem errOperand_mem : errOperand ∈ errorBits := by decide

theorem rateOperand_meets (f : Fmt) (r : Flt) : (rateOperand f r).Meets fun _ => True := by
  rcases rateOperand_cases f r with ⟨-, h⟩ | ⟨-, -, h⟩ | ⟨-, -, h⟩ <;> rw [h]
  · exact .raise errOperand_mem
  · exact .ok isWarning_rate trivial
  · exact .done trivial

theorem lagOperand_meets {α : Type} (f : Fmt) (lag : Flt) (cap lo : Nat) (bound : Nat → α) (keep : Flt → α) :
    (lagOperand f lag cap lo bound keep).Meets fun _ => True := by
  rcases lagOperand_cases f lag cap lo bound keep with ⟨-, h⟩ | ⟨-, -, h⟩ | ⟨-, -, -, h⟩ | ⟨-, -, -, h⟩ <;> rw [h]
  · exact .raise errOperand_mem
  · exact .ok isWarning_clamp trivial
  · exact .ok isWarning_clamp trivial
  · exact .done trivial

/-! ### Sized lines and loaded vibratos -/

/-- A well-formed line that is sized, as every line of a RUNNING model is (44_models_common.md R276). -/
def Dln.Ready (mc : Nat) (u : Dln) : Prop := u.Wf mc ∧ 0 < u.cap
/-- See `Dln.Ready`. -/
def Dla.Ready (mc : Nat) (u : Dla) : Prop := u.Wf mc ∧ 0 < u.cap
/-- See `Dln.Ready`. -/
def Dll.Ready (mc : Nat) (u : Dll) : Prop := u.Wf mc ∧ 0 < u.cap
/-- A well-formed vibrato that has a table. -/
def Vib.Ready (f : Fmt) (u : Vib) : Prop := u.Wf f ∧ 0 < u.len

theorem Dln.cfg_meets (p : Params) (n : Nat) : (Dln.cfg p n).Meets (Dln.Ready p.maxCap) := by
  have h : (Dln.cfg p n).Meets fun _ => True := .guard errOperand_mem trivial
  refine h.and_of_ok fun w u hu => ?_
  obtain ⟨hwf, hcap, -⟩ := Dln.cfg_wf hu
  exact ⟨hwf, by omega⟩

theorem Dla.cfg_meets (p : Params) (n : Nat) (u : Dla) : (u.cfg p n).Meets (Dla.Ready p.maxCap) := by
  have h : (u.cfg p n).Meets fun _ => True := .guard errOperand_mem trivial
  refine h.and_of_ok fun w u' hu => ?_
  obtain ⟨hwf, hcap, -⟩ := Dla.cfg_wf hu
  exact ⟨hwf, by omega⟩

theorem Dll.cfg_meets (p : Params) (n : Nat) (u : Dll) : (u.cfg p n).Meets (Dll.Ready p.maxCap) := by
  have h : (u.cfg p n).Meets fun _ => True := .guard errOperand_mem trivial
  refine h.and_of_ok fun w u' hu => ?_
  obtain ⟨hwf, hcap, -⟩ := Dll.cfg_wf hu
  exact ⟨hwf, by omega⟩

/-- A line that takes a lag was sized, and stays so. -/
theorem Dln.setdel_meets (f : Fmt) (lag : Flt) (mc : Nat) (u : Dln) :
    (u.setdel f lag).Meets fun u' => u.Wf mc → u'.Ready mc := by
  have h : (u.setdel f lag).Meets fun _ => True := .require errUnsized_mem fun _ => .map (lagOperand_meets ..)
  refine h.and_of_ok fun w u' hok hu => ?_
  obtain ⟨hwf, hcap, hpos⟩ := Dln.setdel_wf hu hok
  exact ⟨hwf, by omega⟩

/-- See `Dln.setdel_meets`. -/
theorem Dla.setdel_meets (f : Fmt) (lag : Flt) (mc : Nat) (u : Dla) :
    (u.setdel f lag).Meets fun u' => u.Wf mc → u'.Ready mc := by
  have h : (u.setdel f lag).Meets fun _ => True := .require errUnsized_mem fun _ => .map (lagOperand_meets ..)
  refine h.and_of_ok fun w u' hok hu => ?_
  obtain ⟨hwf, hcap, hpos⟩ := Dla.setdel_wf hu hok
  exact ⟨hwf, by omega⟩

/-- See `Dln.setdel_meets`. -/
theorem Dll.setdel_meets (f : Fmt) (lag : Flt) (mc : Nat) (u : Dll) :
    (u.setdel f lag).Meets fun u' => u.Wf mc → u'.Ready mc := by
  have h : (u.setdel f lag).Meets fun _ => True := .require errUnsized_mem fun _ => .map (lagOperand_meets ..)
  refine h.and_of_ok fun w u' hok hu => ?_
  obtain ⟨hwf, hcap, hpos⟩ := Dll.setdel_wf hu hok
  exact ⟨hwf, by omega⟩

theorem Dln.tick_ready {mc : Nat} {u : Dln} (x : Flt) (h : u.Ready mc) : (u.tick x).2.Ready mc := by
  obtain ⟨hwf, hcap⟩ := Dln.tick_wf x h.1 h.2
  exact ⟨hwf, hcap ▸ h.2⟩

theorem Dla.tick_ready {f : Fmt} {mc : Nat} {u : Dla} (x : Flt) (h : u.Ready mc) : (u.tick f x).2.Ready mc := by
  obtain ⟨hwf, hcap⟩ := Dla.tick_wf (f := f) x h.1 h.2
  exact ⟨hwf, hcap ▸ h.2⟩

theorem Dll.tick_ready {f : Fmt} {mc : Nat} {u : Dll} (x : Flt) (h : u.Ready mc) : (u.tick f x).2.Ready mc := by
  obtain ⟨hwf, hcap⟩ := Dll.tick_wf (f := f) x h.1 h.2
  exact ⟨hwf, hcap ▸ h.2⟩

theorem Vib.settab_meets (c : Ctx) (id : Nat) (u : Vib) : (u.settab c id).Meets (Vib.Ready c.f) := by
  have h : (u.settab c id).Meets fun _ => True := .require errNotable_mem fun _ => .done trivial
  refine h.and_of_ok fun w u' hok => ?_
  obtain ⟨hwf, hlen, -⟩ := Vib.settab_wf hok
  exact ⟨hwf, hlen⟩

/-- A frequency leaves the table and the phase. -/
theorem Vib.setfreq_meets (c : Ctx) (hz : Flt) (u : Vib) :
    (u.setfreq c hz).Meets fun u' => u.Wf c.f → u'.Wf c.f ∧ u'.len = u.len := by
  have h : (u.setfreq c hz).Meets fun _ => True :=
    .require errState_mem fun _ => .require errOperand_mem fun _ => .done trivial
  refine h.and_of_ok fun w u' hok hu => ?_
  obtain ⟨hwf, hlen, -⟩ := Vib.setfreq_wf hu hok
  exact ⟨hwf, hlen⟩

theorem Vib.tick_meets (c : Ctx) (u : Vib) (fx : Fx) : (u.tick c fx).Meets fun r => r.2.1.Ready c.f := by
  have h : (u.tick c fx).Meets fun _ => True := .require errState_mem fun _ => .done trivial
  refine h.and_of_ok fun w r hok => ?_
  obtain ⟨hwf, hlen, hpos, -⟩ := Vib.tick_wf hok
  exact ⟨hwf, hlen ▸ hpos⟩

theorem Adsr.settimes_meets (c : Ctx) (attack decay sustain release : Flt) (u : Adsr) :
    (u.settimes c attack decay sustain release).Meets fun _ => True :=
  .require errState_mem fun _ => .require errOperand_mem fun _ => .done trivial

theorem Adsr.setatk_meets (f : Fmt) (r : Flt) (u : Adsr) : (u.setatk f r).Meets fun _ => True := .map (rateOperand_meets f r)
theorem Adsr.setrel_meets (f : Fmt) (r : Flt) (u : Adsr) : (u.setrel f r).Meets fun _ => True := .map (rateOperand_meets f r)
theorem Env.setrate_meets (f : Fmt) (r : Flt) (u : Env) : (u.setrate f r).Meets fun _ => True := .map (rateOperand_meets f r)

theorem Biq.setfr_meets (c : Ctx) (freq rad : Flt) (u : Biq) : (u.setfr c freq rad).Meets fun _ => True :=
  .require errState_mem fun _ => .require errOperand_mem fun _ => .done trivial

/-! ### The effects of a model's units (60_exceptions.md R363; logs 11, 12) -/

/-- The effects gathered so far are warnings and at most one error. -/
structure Fx.Lawful (fx : Fx) : Prop where
  warns : IsWarning fx.warns
  raised : fx.raised = 0#32 ∨ fx.raised ∈ errorBits

/-- `fx'` is `fx` with what some rules of a model's units added: an error stays raised, and lawful effects stay lawful. -/
structure Fx.Grows (fx fx' : Fx) : Prop where
  lawful : fx.Lawful → fx'.Lawful
  unraised : fx'.raised = 0#32 → fx.raised = 0#32
  strict : fx'.strict = fx.strict

theorem Fx.Grows.refl (fx : Fx) : fx.Grows fx := ⟨id, id, rfl⟩

theorem Fx.Grows.trans {fx fx' fx'' : Fx} (h : fx.Grows fx') (h' : fx'.Grows fx'') : fx.Grows fx'' :=
  ⟨h'.lawful ∘ h.lawful, h.unraised ∘ h'.unraised, h'.strict.trans h.strict⟩

theorem State.fx_lawful (s : State) (strict : Bool) : (s.fx strict).Lawful := ⟨.none, .inl rfl⟩

/-- Drawing changes no warning and no error. -/
theorem Fx.grows_draws (fx : Fx) (noise : List Flt) (free : Nat) : fx.Grows { fx with noise := noise, free := free } :=
  ⟨fun h => ⟨h.warns, h.raised⟩, id, rfl⟩

theorem Fx.grows_warn (fx : Fx) {w : U32} (hw : IsWarning w) : fx.Grows (fx.warn w) := by
  refine ⟨fun h => ⟨?_, by simpa using h.raised⟩, by simp, by simp⟩
  unfold Fx.warn
  split
  · exact h.warns
  · exact h.warns.or hw

theorem Fx.grows_raise (fx : Fx) {e : U32} (he : e ∈ errorBits) : fx.Grows (fx.raise e) := by
  unfold Fx.raise
  split
  · next hc =>
    have h0 : fx.raised = 0#32 := of_decide_eq_true (Bool.and_eq_true_iff.mp hc).2
    exact ⟨fun h => ⟨h.warns, .inr he⟩, fun _ => h0, rfl⟩
  · exact .refl fx

/-- Taking the answer of a model's unit. -/
theorem Fx.grows_absorb {α : Type} {P : α → Prop} (fx : Fx) (u : α) {r : Res α} (h : r.Meets P) :
    fx.Grows (fx.absorb u r).2 := by
  cases h with
  | ok hw ha => exact fx.grows_warn hw
  | raise he => exact (fx.grows_warn .none).trans ((fx.warn 0).grows_raise he)

/-- What a rule keeps, the model's unit keeps: an abandoned rule leaves the unit as it was. -/
theorem Fx.absorb_keeps {α : Type} {Q : α → Prop} (fx : Fx) {u : α} {r : Res α} (h : r.Meets fun a => Q u → Q a) (hu : Q u) :
    Q (fx.absorb u r).1 := by
  cases h with
  | ok hw ha => exact ha hu
  | raise he => exact hu

theorem draw_grows (f : Fmt) (fx : Fx) : fx.Grows (draw f fx).2 := by
  unfold draw
  split <;> exact fx.grows_draws _ _

theorem Noise.tick_grows (f : Fmt) (u : Noise) (fx : Fx) : fx.Grows (u.tick f fx).2.2 := draw_grows f fx

theorem Vib.tick_ok_grows {c : Ctx} {u : Vib} {fx : Fx} {w : U32} {r : Flt × Vib × Fx} (h : u.tick c fx = .ok w r) :
    fx.Grows r.2.2 := by
  obtain ⟨-, h⟩ := Res.require_ok_iff.mp h
  cases h
  exact fx.grows_draws _ _

/-! ### A step of a model's rules -/

/-- A part of INIT or RENDER that takes a model `m` with the effects `fx` to `r`: it keeps the lines sized and the
vibrato loaded (`R`), and its effects grow. -/
structure Keeps {M : Type} (R : M → Prop) (m : M) (fx : Fx) (r : M × Fx) : Prop where
  grows : fx.Grows r.2
  ready : R m → R r.1

/-- A configuration of a model's units at INIT, where errors count: unless it raised one, `P` holds of what it leaves. -/
structure Establishes {α : Type} (P : α → Prop) (fx : Fx) (r : α × Fx) : Prop where
  grows : fx.Grows r.2
  holds : fx.strict = true → r.2.raised = 0#32 → P r.1

theorem Fx.absorb_establishes {α : Type} {P : α → Prop} (fx : Fx) (u : α) {r : Res α} (h : r.Meets P) :
    Establishes P fx (fx.absorb u r) := by
  refine ⟨fx.grows_absorb u h, fun hs h0 => ?_⟩
  cases h with
  | ok hw ha => exact ha
  | raise he => exact absurd h0 (Fx.raise_ne_zero (by simpa using hs) (ne_zero_of_mem_errorBits he))

/-- One unit configured after another. -/
theorem Establishes.seq {α β : Type} {P : α → Prop} {Q : β → Prop} {fx : Fx} {a : α × Fx} {b : β × Fx}
    (ha : Establishes P fx a) (hb : Establishes Q a.2 b) :
    Establishes (fun x : α × β => P x.1 ∧ Q x.2) fx ((a.1, b.1), b.2) :=
  ⟨ha.grows.trans hb.grows,
    fun hs h0 => ⟨ha.holds hs (hb.grows.unraised h0), hb.holds (ha.grows.strict.trans hs) h0⟩⟩

section
variable {M : Type} {R : M → Prop} {m : M} {fx : Fx} {r r' : M × Fx}

theorem Keeps.refl (R : M → Prop) (m : M) (fx : Fx) : Keeps R m fx (m, fx) := ⟨.refl fx, id⟩

theorem Keeps.trans (h : Keeps R m fx r) (h' : Keeps R r.1 r.2 r') : Keeps R m fx r' :=
  ⟨h.grows.trans h'.grows, h'.ready ∘ h.ready⟩

theorem Keeps.ite {b : Prop} [Decidable b] (h : Keeps R m fx r) (h' : Keeps R m fx r') :
    Keeps R m fx (if b then r else r') := by
  split <;> assumption

/-- A recompute action that touches no line and no vibrato, taken or not. -/
theorem ready_ite {b : Prop} [Decidable b] {x y : M} (hx : R x) (hy : R y) : R (if b then x else y) := by
  split <;> assumption

end

/-! ### A model's envelopes and vibrato -/

theorem Adsr.strike_grows (c : Ctx) (t : AdsrTimes) (u : Adsr) (fx : Fx) : fx.Grows (u.strike c t fx).2 :=
  fx.grows_absorb _ (Adsr.settimes_meets ..)

theorem Adsr.letGo_grows (c : Ctx) (h : Hdr) (u : Adsr) (fx : Fx) : fx.Grows (u.letGo c h fx).2 :=
  fx.grows_absorb _ (Adsr.setrel_meets ..)

/-- A loaded vibrato stays loaded under a frequency. -/
theorem Vib.setfreq_ready (c : Ctx) (hz : Flt) (u : Vib) : (u.setfreq c hz).Meets fun u' => u.Ready c.f → u'.Ready c.f :=
  (u.setfreq_meets c hz).imp fun _ h hu => ⟨(h hu.1).1, (h hu.1).2 ▸ hu.2⟩

/-- The tick of a model's vibrato keeps it loaded; in the branch no run reaches it stays as it is (log 21). -/
theorem Vib.tickPrivate_keeps (c : Ctx) (u : Vib) (fx : Fx) :
    fx.Grows (u.tickPrivate c fx).2.2 ∧ (u.Ready c.f → (u.tickPrivate c fx).2.1.Ready c.f) := by
  have h := u.tick_meets c fx
  unfold Vib.tickPrivate
  split
  · next w r ho =>
    rw [ho] at h
    cases h with
    | ok hw hr => exact ⟨(Vib.tick_ok_grows ho).trans (r.2.2.grows_warn hw), fun _ => hr⟩
  · next w e ho =>
    rw [ho] at h
    cases h with
    | raise he => exact ⟨(fx.grows_draws fx.noise (fx.free + 1)).trans (Fx.grows_raise _ he), id⟩

/-! ### A model whose functions keep its units in order -/

/-- What every part of a model keeps. `Wf` is the invariant of the model and `Ready` what RUNNING asks of its lines and its
vibrato: the configuration of INIT, where it raises no error, makes the model ready, and every later rule keeps it so
(44_models_common.md R276, R293). -/
structure ModelKit.Sound {M : Type} (k : ModelKit M) (Wf Ready : Params → M → Prop) : Prop where
  wf_of_ready : ∀ {p m}, Ready p m → Wf p m
  ready_of_running : ∀ {p m}, Wf p m → (k.hdr m).mstate = .running → Ready p m
  wf_setHdr : ∀ {p m h}, Wf p m → (h.mstate = .running → (k.hdr m).mstate = .running) → Wf p (k.setHdr h m)
  ready_setHdr : ∀ {p m} (h), Ready p m → Ready p (k.setHdr h m)
  configure : ∀ c n id m fx, Establishes (Ready c.p) fx (k.configure c n id m fx)
  initModel : ∀ c m fx, Keeps (Ready c.p) m fx (k.initModel c m fx)
  recompute : ∀ c all m fx, Keeps (Ready c.p) m fx (k.recompute c all m fx)
  sample : ∀ c m fx, Keeps (Ready c.p) m fx ((k.sample c m fx).m, (k.sample c m fx).fx)
  release : ∀ c m fx, Keeps (Ready c.p) m fx (k.release c m fx)

/-- An answer of INIT or RENDER sets warnings alone where it completes, and one error bit beside them where it raises (R363). -/
inductive Res.Signals {α : Type} : Res α → Prop where
  | ok {w : U32} {a : α} (hw : IsWarning w) : Signals (.ok w a)
  | raise {w e : U32} (hw : IsWarning w) (he : e ∈ errorBits) : Signals (.raise w e)

section
variable {M : Type} {k : ModelKit M} {Wf Ready : Params → M → Prop}

theorem ModelKit.Sound.controlUpdate (hk : k.Sound Wf Ready) (c : Ctx) (all : Bool) (m : M) (fx : Fx) :
    Keeps (Ready c.p) m fx (controlUpdate k c all m fx) :=
  (hk.recompute c all m fx).trans ⟨.refl _, hk.ready_setHdr _⟩

theorem ModelKit.Sound.releaseStep (hk : k.Sound Wf Ready) (c : Ctx) (m : M) (fx : Fx) :
    Keeps (Ready c.p) m fx (releaseStep k c m fx) := by
  have hcount (h : Hdr) : Keeps (Ready c.p) m fx (k.setHdr h m, fx) := ⟨.refl fx, hk.ready_setHdr h⟩
  exact .ite ((hcount _).trans (hk.release c _ fx)) (hcount _)

theorem ModelKit.Sound.renderPrep (hk : k.Sound Wf Ready) (c : Ctx) (m : M) (fx : Fx) :
    Keeps (Ready c.p) m fx (renderPrep k c m fx) :=
  (hk.releaseStep c m fx).trans (hk.controlUpdate c false _ _)

theorem ModelKit.Sound.renderLoop (hk : k.Sound Wf Ready) (c : Ctx) (n : Nat) (m : M) (fx : Fx) :
    Keeps (Ready c.p) m fx (renderLoop k c n m fx).2 :=
  renderLoop_induction (P := fun m' fx' => Keeps (Ready c.p) m fx (m', fx'))
    (fun m' fx' h => h.trans (hk.sample c m' fx')) n m fx (.refl _ m fx)

/-- The STATUS bits of a RENDER (60_exceptions.md R361, R363). -/
theorem ModelKit.Sound.renderBody_signals (hk : k.Sound Wf Ready) (c : Ctx) (n : Nat) (m : M) {fx : Fx} (hfx : fx.Lawful) :
    (renderBody k c n m fx).Signals := by
  have hprep := (hk.renderPrep c m fx).grows.lawful hfx
  rcases renderBody_cases k c n m fx with ⟨hr, h⟩ | ⟨-, h⟩ <;> rw [h]
  · exact .raise hprep.warns (hprep.raised.resolve_left hr)
  · have hloop : Fx.Lawful { (Machine.renderPrep k c m fx).2 with strict := false } := ⟨hprep.warns, hprep.raised⟩
    exact .ok ((hk.renderLoop c n _ _).grows.lawful hloop).warns

/-- A RENDER keeps the model ready. -/
theorem ModelKit.Sound.renderBody_ready (hk : k.Sound Wf Ready) {c : Ctx} {n : Nat} {m : M} {fx : Fx} {w : U32}
    {r : List Flt × M × Fx} (h : renderBody k c n m fx = .ok w r) (hm : Ready c.p m) : Ready c.p r.2.1 := by
  rcases renderBody_cases k c n m fx with ⟨-, h'⟩ | ⟨-, h'⟩ <;> rw [h'] at h <;> cases h
  exact (hk.renderLoop c n _ _).ready ((hk.renderPrep c m fx).ready hm)

/-- Starting a note grows the effects, and where no error was raised it leaves the model ready (44_models_common.md R276). -/
theorem ModelKit.Sound.startNote (hk : k.Sound Wf Ready) (c : Ctx) (n id : Nat) (minF : Flt) (m : M) (fx : Fx) :
    Establishes (Ready c.p) fx (startNote k c n id minF m fx) := by
  have hconf := hk.configure c n id (k.fresh c.f { k.hdr m with minF := minF, iCtl := (k.hdr m).ctl }) fx
  have hrest (m' : M) (fx' : Fx) := (hk.initModel c m' fx').trans (hk.controlUpdate c true _ _)
  exact ⟨hconf.grows.trans (hrest _ _).grows,
    fun hs h0 => hk.ready_setHdr _ ((hrest _ _).ready (hconf.holds hs ((hrest _ _).grows.unraised h0)))⟩

theorem lowestFrequency_isWarning (c : Ctx) (h : Hdr) (fmax : Flt) : IsWarning (lowestFrequency c h fmax).2 := by
  unfold lowestFrequency
  split
  · exact .none
  · split
    · exact .none
    · exact isWarning_floor

/-- The STATUS bits of an INIT (44_models_common.md R276, 60_exceptions.md R363; log 27). -/
theorem ModelKit.Sound.initNote_signals (hk : k.Sound Wf Ready) (c : Ctx) (m : M) {fx : Fx} (hfx : fx.Lawful) :
    (initNote k c m fx).Signals := by
  have hlow := lowestFrequency_isWarning c (k.hdr m) (k.fmax c)
  unfold initNote
  split
  · exact .raise .none errState_mem
  split
  · exact .raise .none errNotable_mem
  dsimp only
  split
  · exact .raise hlow errOperand_mem
  split
  · exact .raise hlow errOperand_mem
  have hnote (n id : Nat) (minF : Flt) := (hk.startNote c n id minF m fx).grows.lawful hfx
  split
  · next hr => exact .raise (hlow.or (hnote ..).warns) ((hnote ..).raised.resolve_left hr)
  · exact .ok (hlow.or (hnote ..).warns)

/-- An INIT that completes leaves the model ready. -/
theorem ModelKit.Sound.initNote_ready (hk : k.Sound Wf Ready) {c : Ctx} {m m' : M} {fx : Fx} {w : U32} (hs : fx.strict = true)
    (h : initNote k c m fx = .ok w m') : Ready c.p m' := by
  obtain ⟨n, -, -, h0, rfl⟩ := initNote_ok h
  exact (hk.startNote c _ _ _ m fx).holds hs h0

end

theorem freqOf_isWarning (c : Ctx) (h : Hdr) (fmax : Flt) : IsWarning (freqOf c h fmax).2 :=
  isWarning_clamp.ite .none

/-- What RUNNING asks of the lines and the vibrato of each model: sized and loaded (44_models_common.md R276). -/
def Bar.Ready (p : Params) (m : Bar) : Prop :=
  m.k.k0.d.Ready p.maxCap ∧ m.k.k1.d.Ready p.maxCap ∧ m.k.k2.d.Ready p.maxCap ∧ m.k.k3.d.Ready p.maxCap
/-- See `Bar.Ready`. -/
def Clar.Ready (p : Params) (m : Clar) : Prop := m.dl.Ready p.maxCap ∧ m.vb.Ready p.fmt
/-- See `Bar.Ready`. -/
def Flute.Ready (p : Params) (m : Flute) : Prop := m.bore.Ready p.maxCap ∧ m.jet.Ready p.maxCap ∧ m.vb.Ready p.fmt
/-- See `Bar.Ready`. -/
def Bowed.Ready (p : Params) (m : Bowed) : Prop := m.nut.Ready p.maxCap ∧ m.bridge.Ready p.maxCap ∧ m.vb.Ready p.fmt
/-- See `Bar.Ready`. -/
def Brass.Ready (p : Params) (m : Brass) : Prop := m.bore.Ready p.maxCap ∧ m.vb.Ready p.fmt

section
variable (c : Ctx)

/-! ### The operations on a model's lines and vibrato -/

theorem Dln.absorb_setdel (fx : Fx) (lag : Flt) (u : Dln) {mc : Nat} (hu : u.Ready mc) :
    (fx.absorb u (u.setdel c.f lag)).1.Ready mc :=
  fx.absorb_keeps ((u.setdel_meets c.f lag mc).imp fun _ h hu => h hu.1) hu
theorem Dla.absorb_setdel (fx : Fx) (lag : Flt) (u : Dla) {mc : Nat} (hu : u.Ready mc) :
    (fx.absorb u (u.setdel c.f lag)).1.Ready mc :=
  fx.absorb_keeps ((u.setdel_meets c.f lag mc).imp fun _ h hu => h hu.1) hu
theorem Dll.absorb_setdel (fx : Fx) (lag : Flt) (u : Dll) {mc : Nat} (hu : u.Ready mc) :
    (fx.absorb u (u.setdel c.f lag)).1.Ready mc :=
  fx.absorb_keeps ((u.setdel_meets c.f lag mc).imp fun _ h hu => h hu.1) hu
theorem Vib.absorb_setfreq (fx : Fx) (hz : Flt) (u : Vib) (hu : u.Ready c.f) : (fx.absorb u (u.setfreq c hz)).1.Ready c.f :=
  fx.absorb_keeps (u.setfreq_ready c hz) hu

theorem Dln.absorb_setdel_grows (fx : Fx) (lag : Flt) (u : Dln) : fx.Grows (fx.absorb u (u.setdel c.f lag)).2 :=
  fx.grows_absorb u (u.setdel_meets c.f lag 0)
theorem Dla.absorb_setdel_grows (fx : Fx) (lag : Flt) (u : Dla) : fx.Grows (fx.absorb u (u.setdel c.f lag)).2 :=
  fx.grows_absorb u (u.setdel_meets c.f lag 0)
theorem Dll.absorb_setdel_grows (fx : Fx) (lag : Flt) (u : Dll) : fx.Grows (fx.absorb u (u.setdel c.f lag)).2 :=
  fx.grows_absorb u (u.setdel_meets c.f lag 0)
theorem Vib.absorb_setfreq_grows (fx : Fx) (hz : Flt) (u : Vib) : fx.Grows (fx.absorb u (u.setfreq c hz)).2 :=
  fx.grows_absorb u (u.setfreq_meets c hz)

/-! ### BAR (45_models.md R301-R311) -/

theorem Branch.tune_keeps (f ratio : Flt) (b : Branch) (fx : Fx) (mc : Nat) :
    Keeps (fun b : Branch => b.d.Ready mc) b fx (b.tune c f ratio fx) :=
  ⟨(Dln.absorb_setdel_grows c fx _ b.d).trans (Fx.grows_absorb _ _ (Biq.setfr_meets ..)), Dln.absorb_setdel c fx _ b.d⟩

theorem Bar.tune_keeps (f : Flt) (m : Bar) (fx : Fx) : Keeps (Bar.Ready c.p) m fx (m.tune c f fx) := by
  have tuned (ratio : Flt) (b : Branch) (fx : Fx) := Branch.tune_keeps c f ratio b fx c.p.maxCap
  exact ⟨(tuned ..).grows.trans ((tuned ..).grows.trans ((tuned ..).grows.trans (tuned ..).grows)),
    fun ⟨h0, h1, h2, h3⟩ => ⟨(tuned ..).ready h0, (tuned ..).ready h1, (tuned ..).ready h2, (tuned ..).ready h3⟩⟩

theorem Bar.recompute_keeps (all : Bool) (m : Bar) (fx : Fx) : Keeps (Bar.Ready c.p) m fx (m.recompute c all fx) := by
  unfold Bar.recompute
  extract_lets h f a m1 m2 m3 m4
  have ha : Keeps (Bar.Ready c.p) m fx a :=
    .ite (.trans (r := (m, _)) ⟨fx.grows_warn (freqOf_isWarning ..), id⟩ (Bar.tune_keeps ..)) (.refl _ m fx)
  refine ⟨ha.grows, fun hm => ?_⟩
  have h0 : a.1.Ready c.p := ha.ready hm
  have h1 : m1.Ready c.p := ready_ite h0 h0
  have h2 : m2.Ready c.p := ready_ite h1 h1
  have h3 : m3.Ready c.p := ready_ite h2 h2
  exact ready_ite h3 h3

theorem Bar.configure_establishes (n id : Nat) (m : Bar) (fx : Fx) :
    Establishes (Bar.Ready c.p) fx (m.configure c n id fx) := by
  have lines (u : Dln) (fx : Fx) := fx.absorb_establishes u (Dln.cfg_meets c.p n)
  have h := (lines m.k.k0.d fx).seq ((lines m.k.k1.d _).seq ((lines m.k.k2.d _).seq (lines m.k.k3.d _)))
  exact ⟨h.grows, h.holds⟩

theorem Bar.initModel_keeps (m : Bar) (fx : Fx) : Keeps (Bar.Ready c.p) m fx (m.initModel c fx) :=
  ⟨Adsr.strike_grows c _ m.ad fx, id⟩

theorem Branch.tick_ready (fb x : Flt) {b : Branch} {mc : Nat} (h : b.d.Ready mc) : (b.tick c fb x).d.Ready mc :=
  Dln.tick_ready _ h

theorem Bar.drive_ready {p : Params} {m : Bar} (h : m.Ready p) : (Bar.drive c m).Ready p := ready_ite h h

theorem Bar.sample_keeps (m : Bar) (fx : Fx) : Keeps (Bar.Ready c.p) m fx ((Bar.sample c m fx).m, (Bar.sample c m fx).fx) := by
  refine ⟨.refl fx, fun hm => ?_⟩
  obtain ⟨h0, h1, h2, h3⟩ := Bar.drive_ready c (m := { m with vEst := Bar.estimate c m }) hm
  exact ⟨Branch.tick_ready c _ _ h0, Branch.tick_ready c _ _ h1, Branch.tick_ready c _ _ h2, Branch.tick_ready c _ _ h3⟩

theorem Bar.release_keeps (m : Bar) (fx : Fx) : Keeps (Bar.Ready c.p) m fx (m.release c fx) := ⟨.refl fx, id⟩

/-! ### CLAR (45_models.md R320-R326) -/

theorem Clar.configure_establishes (n id : Nat) (m : Clar) (fx : Fx) :
    Establishes (Clar.Ready c.p) fx (m.configure c n id fx) := by
  have h := (fx.absorb_establishes m.dl (Dll.cfg_meets c.p n m.dl)).seq
    (Fx.absorb_establishes _ m.vb (Vib.settab_meets c id m.vb))
  exact ⟨h.grows, h.holds⟩

theorem Clar.initModel_keeps (m : Clar) (fx : Fx) : Keeps (Clar.Ready c.p) m fx (m.initModel c fx) :=
  ⟨fx.grows_absorb _ (Env.setrate_meets ..), id⟩

theorem Clar.recompute_keeps (all : Bool) (m : Clar) (fx : Fx) : Keeps (Clar.Ready c.p) m fx (m.recompute c all fx) := by
  unfold Clar.recompute
  extract_lets h f lag d a m1 m2 v
  have ha : Keeps (Clar.Ready c.p) m fx a :=
    .ite ⟨(fx.grows_warn (freqOf_isWarning ..)).trans (Dll.absorb_setdel_grows ..),
      fun hm => ⟨Dll.absorb_setdel c _ lag m.dl hm.1, hm.2⟩⟩ (.refl _ m fx)
  have hm2 : Keeps (Clar.Ready c.p) m fx (m2, a.2) := ⟨ha.grows, fun hm => ready_ite (ha.ready hm) (ha.ready hm)⟩
  exact hm2.trans (.ite ⟨Vib.absorb_setfreq_grows .., fun hm => ⟨hm.1, Vib.absorb_setfreq c _ _ _ hm.2⟩⟩ (.refl ..))

theorem Clar.sample_keeps (m : Clar) (fx : Fx) :
    Keeps (Clar.Ready c.p) m fx ((Clar.sample c m fx).m, (Clar.sample c m fx).fx) := by
  have hv := m.vb.tickPrivate_keeps c (m.ns.tick c.f fx).2.2
  exact ⟨(m.ns.tick_grows c.f fx).trans hv.1, fun hm => ⟨Dll.tick_ready _ hm.1, hv.2 hm.2⟩⟩

theorem Clar.release_keeps (m : Clar) (fx : Fx) : Keeps (Clar.Ready c.p) m fx (m.release c fx) :=
  ⟨fx.grows_absorb _ (Env.setrate_meets ..), id⟩

/-! ### FLUTE (45_models.md R330-R336) -/

theorem Flute.configure_establishes (n id : Nat) (m : Flute) (fx : Fx) :
    Establishes (Flute.Ready c.p) fx (m.configure c n id fx) := by
  have h := (fx.absorb_establishes m.bore (Dll.cfg_meets c.p n m.bore)).seq
    ((Fx.absorb_establishes _ m.jet (Dll.cfg_meets c.p n m.jet)).seq
      (Fx.absorb_establishes _ m.vb (Vib.settab_meets c id m.vb)))
  exact ⟨h.grows, h.holds⟩

theorem Flute.initModel_keeps (m : Flute) (fx : Fx) : Keeps (Flute.Ready c.p) m fx (m.initModel c fx) :=
  ⟨Adsr.strike_grows c _ m.ad fx, id⟩

theorem Flute.tune_keeps (m : Flute) (fx : Fx) : Keeps (Flute.Ready c.p) m fx (m.tune c fx) :=
  ⟨(fx.grows_warn (freqOf_isWarning ..)).trans ((Dll.absorb_setdel_grows ..).trans (Dll.absorb_setdel_grows ..)),
    fun hm => ⟨Dll.absorb_setdel c _ _ m.bore hm.1, Dll.absorb_setdel c _ _ m.jet hm.2.1, hm.2.2⟩⟩

theorem Flute.recompute_keeps (all : Bool) (m : Flute) (fx : Fx) : Keeps (Flute.Ready c.p) m fx (m.recompute c all fx) := by
  unfold Flute.recompute
  extract_lets h a m1 m2 v
  have ha : Keeps (Flute.Ready c.p) m fx a := .ite (Flute.tune_keeps c m fx) (.refl _ m fx)
  have hm2 : Keeps (Flute.Ready c.p) m fx (m2, a.2) := ⟨ha.grows, fun hm => ready_ite (ha.ready hm) (ha.ready hm)⟩
  exact hm2.trans
    (.ite ⟨Vib.absorb_setfreq_grows .., fun hm => ⟨hm.1, hm.2.1, Vib.absorb_setfreq c _ _ _ hm.2.2⟩⟩ (.refl ..))

theorem Flute.sample_keeps (m : Flute) (fx : Fx) :
    Keeps (Flute.Ready c.p) m fx ((Flute.sample c m fx).m, (Flute.sample c m fx).fx) := by
  have hv := m.vb.tickPrivate_keeps c (m.ns.tick c.f fx).2.2
  exact ⟨(m.ns.tick_grows c.f fx).trans hv.1,
    fun hm => ⟨Dll.tick_ready _ hm.1, Dll.tick_ready _ hm.2.1, hv.2 hm.2.2⟩⟩

theorem Flute.release_keeps (m : Flute) (fx : Fx) : Keeps (Flute.Ready c.p) m fx (m.release c fx) :=
  ⟨Adsr.letGo_grows c m.hdr m.ad fx, id⟩

/-! ### BOWED (45_models.md R340-R346) -/

theorem Bowed.configure_establishes (n id : Nat) (m : Bowed) (fx : Fx) :
    Establishes (Bowed.Ready c.p) fx (m.configure c n id fx) := by
  have h := (fx.absorb_establishes m.nut (Dll.cfg_meets c.p n m.nut)).seq
    ((Fx.absorb_establishes _ m.bridge (Dll.cfg_meets c.p n m.bridge)).seq
      (Fx.absorb_establishes _ m.vb (Vib.settab_meets c id m.vb)))
  exact ⟨h.grows, h.holds⟩

theorem Bowed.initModel_keeps (m : Bowed) (fx : Fx) : Keeps (Bowed.Ready c.p) m fx (m.initModel c fx) :=
  ⟨(fx.grows_absorb _ (Biq.setfr_meets ..)).trans (Adsr.strike_grows ..), id⟩

theorem Bowed.tune_keeps (m : Bowed) (fx : Fx) : Keeps (Bowed.Ready c.p) m fx (m.tune c fx) :=
  ⟨(fx.grows_warn (freqOf_isWarning ..)).trans ((Dll.absorb_setdel_grows ..).trans (Dll.absorb_setdel_grows ..)),
    fun hm => ⟨Dll.absorb_setdel c _ _ m.nut hm.1, Dll.absorb_setdel c _ _ m.bridge hm.2.1, hm.2.2⟩⟩

theorem Bowed.recompute_keeps (all : Bool) (m : Bowed) (fx : Fx) : Keeps (Bowed.Ready c.p) m fx (m.recompute c all fx) := by
  unfold Bowed.recompute
  extract_lets h a m1 m2 m3 v
  have ha : Keeps (Bowed.Ready c.p) m fx a := .ite (Bowed.tune_keeps c m fx) (.refl _ m fx)
  have hm3 : Keeps (Bowed.Ready c.p) m fx (m3, a.2) := by
    refine ⟨ha.grows, fun hm => ?_⟩
    have h2 : m2.Ready c.p := ready_ite (ha.ready hm) (ha.ready hm)
    exact ready_ite h2 h2
  exact hm3.trans
    (.ite ⟨Vib.absorb_setfreq_grows .., fun hm => ⟨hm.1, hm.2.1, Vib.absorb_setfreq c _ _ _ hm.2.2⟩⟩ (.refl ..))

theorem Bowed.vibrate_keeps (m : Bowed) (fx : Fx) : Keeps (Bowed.Ready c.p) m fx (m.vibrate c fx) := by
  have hv := m.vb.tickPrivate_keeps c fx
  exact .ite (.refl _ m fx)
    ⟨hv.1.trans (Dll.absorb_setdel_grows ..), fun hm => ⟨Dll.absorb_setdel c _ _ m.nut hm.1, hm.2.1, hv.2 hm.2.2⟩⟩

theorem Bowed.sample_keeps (m : Bowed) (fx : Fx) :
    Keeps (Bowed.Ready c.p) m fx ((Bowed.sample c m fx).m, (Bowed.sample c m fx).fx) := by
  have hv (m' : Bowed) := Bowed.vibrate_keeps c m' fx
  exact ⟨(hv _).grows, fun hm => (hv _).ready ⟨Dll.tick_ready _ hm.1, Dll.tick_ready _ hm.2.1, hm.2.2⟩⟩

theorem Bowed.release_keeps (m : Bowed) (fx : Fx) : Keeps (Bowed.Ready c.p) m fx (m.release c fx) := ⟨.refl fx, id⟩

/-! ### BRASS (45_models.md R348-R352) -/

theorem Brass.configure_establishes (n id : Nat) (m : Brass) (fx : Fx) :
    Establishes (Brass.Ready c.p) fx (m.configure c n id fx) := by
  have h := (fx.absorb_establishes m.bore (Dla.cfg_meets c.p n m.bore)).seq
    (Fx.absorb_establishes _ m.vb (Vib.settab_meets c id m.vb))
  exact ⟨h.grows, h.holds⟩

theorem Brass.initModel_keeps (m : Brass) (fx : Fx) : Keeps (Brass.Ready c.p) m fx (m.initModel c fx) :=
  ⟨Adsr.strike_grows c _ m.ad fx, id⟩

theorem Brass.tune_keeps (all : Bool) (m : Brass) (fx : Fx) : Keeps (Brass.Ready c.p) m fx (m.tune c all fx) := by
  unfold Brass.tune
  extract_lets f fx' b q
  have hb : Keeps (Dla.Ready c.p.maxCap) m.bore fx' b :=
    .ite ⟨Dla.absorb_setdel_grows .., Dla.absorb_setdel c fx' _ m.bore⟩ (.refl _ m.bore fx')
  exact ⟨(fx.grows_warn (freqOf_isWarning ..)).trans (hb.grows.trans (Fx.grows_absorb _ _ (Biq.setfr_meets ..))),
    fun hm => ⟨hb.ready hm.1, hm.2⟩⟩

theorem Brass.recompute_keeps (all : Bool) (m : Brass) (fx : Fx) : Keeps (Brass.Ready c.p) m fx (m.recompute c all fx) := by
  unfold Brass.recompute
  extract_lets h a m1 m2 v
  have ha : Keeps (Brass.Ready c.p) m fx a := .ite (Brass.tune_keeps c all m fx) (.refl _ m fx)
  have hm2 : Keeps (Brass.Ready c.p) m fx (m2, a.2) := ⟨ha.grows, fun hm => ready_ite (ha.ready hm) (ha.ready hm)⟩
  exact hm2.trans (.ite ⟨Vib.absorb_setfreq_grows .., fun hm => ⟨hm.1, Vib.absorb_setfreq c _ _ _ hm.2⟩⟩ (.refl ..))

theorem Brass.sample_keeps (m : Brass) (fx : Fx) :
    Keeps (Brass.Ready c.p) m fx ((Brass.sample c m fx).m, (Brass.sample c m fx).fx) := by
  have hv := m.vb.tickPrivate_keeps c fx
  exact ⟨hv.1, fun hm => ⟨Dla.tick_ready _ hm.1, hv.2 hm.2⟩⟩

theorem Brass.release_keeps (m : Brass) (fx : Fx) : Keeps (Brass.Ready c.p) m fx (m.release c fx) :=
  ⟨Adsr.letGo_grows c m.hdr m.ad fx, id⟩

end

/-! ### The five models are sound -/

/-- A header that is RUNNING only where the old one was asks for no more. -/
theorem Sized.mono {h h' : Hdr} {caps : List Nat} (hs : Sized h caps) (hr : h'.mstate = .running → h.mstate = .running) :
    Sized h' caps := fun h => hs (hr h)

theorem barKit_sound : barKit.Sound (fun p m => m.Wf p.maxCap) Bar.Ready where
  wf_of_ready := fun ⟨h0, h1, h2, h3⟩ => ⟨h0.1, h1.1, h2.1, h3.1, fun _ => by simpa using ⟨h0.2, h1.2, h2.2, h3.2⟩⟩
  ready_of_running := by
    rintro p m ⟨h0, h1, h2, h3, hs⟩ hr
    obtain ⟨c0, c1, c2, c3⟩ : 0 < m.k.k0.d.cap ∧ 0 < m.k.k1.d.cap ∧ 0 < m.k.k2.d.cap ∧ 0 < m.k.k3.d.cap := by simpa using hs hr
    exact ⟨⟨h0, c0⟩, ⟨h1, c1⟩, ⟨h2, c2⟩, h3, c3⟩
  wf_setHdr := fun ⟨h0, h1, h2, h3, hs⟩ hr => ⟨h0, h1, h2, h3, hs.mono hr⟩
  ready_setHdr := fun _ h => h
  configure := Bar.configure_establishes
  initModel := Bar.initModel_keeps
  recompute := Bar.recompute_keeps
  sample := Bar.sample_keeps
  release := Bar.release_keeps

theorem clarKit_sound : clarKit.Sound (fun p m => m.Wf p.fmt p.maxCap) Clar.Ready where
  wf_of_ready := fun ⟨hd, hv⟩ => ⟨hd.1, hv.1, fun _ => by simpa using ⟨hd.2, hv.2⟩⟩
  ready_of_running := by
    rintro p m ⟨hd, hv, hs⟩ hr
    obtain ⟨cd, cv⟩ : 0 < m.dl.cap ∧ 0 < m.vb.len := by simpa using hs hr
    exact ⟨⟨hd, cd⟩, hv, cv⟩
  wf_setHdr := fun ⟨hd, hv, hs⟩ hr => ⟨hd, hv, hs.mono hr⟩
  ready_setHdr := fun _ h => h
  configure := Clar.configure_establishes
  initModel := Clar.initModel_keeps
  recompute := Clar.recompute_keeps
  sample := Clar.sample_keeps
  release := Clar.release_keeps

theorem fluteKit_sound : fluteKit.Sound (fun p m => m.Wf p.fmt p.maxCap) Flute.Ready where
  wf_of_ready := fun ⟨hb, hj, hv⟩ => ⟨hb.1, hj.1, hv.1, fun _ => by simpa using ⟨hb.2, hj.2, hv.2⟩⟩
  ready_of_running := by
    rintro p m ⟨hb, hj, hv, hs⟩ hr
    obtain ⟨cb, cj, cv⟩ : 0 < m.bore.cap ∧ 0 < m.jet.cap ∧ 0 < m.vb.len := by simpa using hs hr
    exact ⟨⟨hb, cb⟩, ⟨hj, cj⟩, hv, cv⟩
  wf_setHdr := fun ⟨hb, hj, hv, hs⟩ hr => ⟨hb, hj, hv, hs.mono hr⟩
  ready_setHdr := fun _ h => h
  configure := Flute.configure_establishes
  initModel := Flute.initModel_keeps
  recompute := Flute.recompute_keeps
  sample := Flute.sample_keeps
  release := Flute.release_keeps

theorem bowedKit_sound : bowedKit.Sound (fun p m => m.Wf p.fmt p.maxCap) Bowed.Ready where
  wf_of_ready := fun ⟨hn, hb, hv⟩ => ⟨hn.1, hb.1, hv.1, fun _ => by simpa using ⟨hn.2, hb.2, hv.2⟩⟩
  ready_of_running := by
    rintro p m ⟨hn, hb, hv, hs⟩ hr
    obtain ⟨cn, cb, cv⟩ : 0 < m.nut.cap ∧ 0 < m.bridge.cap ∧ 0 < m.vb.len := by simpa using hs hr
    exact ⟨⟨hn, cn⟩, ⟨hb, cb⟩, hv, cv⟩
  wf_setHdr := fun ⟨hn, hb, hv, hs⟩ hr => ⟨hn, hb, hv, hs.mono hr⟩
  ready_setHdr := fun _ h => h
  configure := Bowed.configure_establishes
  initModel := Bowed.initModel_keeps
  recompute := Bowed.recompute_keeps
  sample := Bowed.sample_keeps
  release := Bowed.release_keeps

theorem brassKit_sound : brassKit.Sound (fun p m => m.Wf p.fmt p.maxCap) Brass.Ready where
  wf_of_ready := fun ⟨hb, hv⟩ => ⟨hb.1, hv.1, fun _ => by simpa using ⟨hb.2, hv.2⟩⟩
  ready_of_running := by
    rintro p m ⟨hb, hv, hs⟩ hr
    obtain ⟨cb, cv⟩ : 0 < m.bore.cap ∧ 0 < m.vb.len := by simpa using hs hr
    exact ⟨⟨hb, cb⟩, hv, cv⟩
  wf_setHdr := fun ⟨hb, hv, hs⟩ hr => ⟨hb, hv, hs.mono hr⟩
  ready_setHdr := fun _ h => h
  configure := Brass.configure_establishes
  initModel := Brass.initModel_keeps
  recompute := Brass.recompute_keeps
  sample := Brass.sample_keeps
  release := Brass.release_keeps

/-! ### The banks of instances -/

/-- `get` and `put` read and write one bank: a write changes nothing outside the banks, and `State.UnitsWf` asks `Q` of each
unit in the bank and nothing that links the banks. -/
structure BankOf {α : Type} (get : State → List α) (put : State → List α → State) (Q : Params → α → Prop) : Prop where
  writes : ∀ s b, ∃ u m, put s b = { s with units := u, models := m }
  wf_get : ∀ {s : State}, s.UnitsWf → ∀ u ∈ get s, Q s.params u
  wf_put : ∀ {s : State} {b : List α}, s.UnitsWf → (∀ u ∈ b, Q s.params u) → (put s b).UnitsWf

/-- Replacing one unit of a well-formed bank. -/
theorem BankOf.wf_set {α : Type} {get : State → List α} {put : State → List α → State} {Q : Params → α → Prop}
    (hb : BankOf get put Q) {s s' : State} (n : Nat) {u : α} (hs : s.UnitsWf) (hp : s'.params = s.params) (hs' : s'.UnitsWf)
    (hu : Q s.params u) : (put s' ((get s).set n u)).UnitsWf := by
  refine hb.wf_put hs' fun v hv => ?_
  rw [hp]
  rcases List.mem_or_eq_of_mem_set hv with hv | rfl
  · exact hb.wf_get hs v hv
  · exact hu

theorem dlnBank : BankOf (fun s => s.units.dln) State.putDln (fun p u => u.Wf p.maxCap) where
  writes := fun _ _ => ⟨_, _, rfl⟩
  wf_get := fun ⟨h, _, _, _, _, _, _, _, _⟩ => h
  wf_put := fun ⟨_, h1, h2, h3, h4, h5, h6, h7, h8⟩ hb => ⟨hb, h1, h2, h3, h4, h5, h6, h7, h8⟩

theorem dlaBank : BankOf (fun s => s.units.dla) State.putDla (fun p u => u.Wf p.maxCap) where
  writes := fun _ _ => ⟨_, _, rfl⟩
  wf_get := fun ⟨_, h, _, _, _, _, _, _, _⟩ => h
  wf_put := fun ⟨h0, _, h2, h3, h4, h5, h6, h7, h8⟩ hb => ⟨h0, hb, h2, h3, h4, h5, h6, h7, h8⟩

theorem dllBank : BankOf (fun s => s.units.dll) State.putDll (fun p u => u.Wf p.maxCap) where
  writes := fun _ _ => ⟨_, _, rfl⟩
  wf_get := fun ⟨_, _, h, _, _, _, _, _, _⟩ => h
  wf_put := fun ⟨h0, h1, _, h3, h4, h5, h6, h7, h8⟩ hb => ⟨h0, h1, hb, h3, h4, h5, h6, h7, h8⟩

theorem vibBank : BankOf (fun s => s.units.vib) State.putVib (fun p u => u.Wf p.fmt) where
  writes := fun _ _ => ⟨_, _, rfl⟩
  wf_get := fun ⟨_, _, _, h, _, _, _, _, _⟩ => h
  wf_put := fun ⟨h0, h1, h2, _, h4, h5, h6, h7, h8⟩ hb => ⟨h0, h1, h2, hb, h4, h5, h6, h7, h8⟩

theorem barBank : BankOf (fun s => s.models.bar) State.putBar (fun p u => u.Wf p.maxCap) where
  writes := fun _ _ => ⟨_, _, rfl⟩
  wf_get := fun ⟨_, _, _, _, h, _, _, _, _⟩ => h
  wf_put := fun ⟨h0, h1, h2, h3, _, h5, h6, h7, h8⟩ hb => ⟨h0, h1, h2, h3, hb, h5, h6, h7, h8⟩

theorem clarBank : BankOf (fun s => s.models.clar) State.putClar (fun p u => u.Wf p.fmt p.maxCap) where
  writes := fun _ _ => ⟨_, _, rfl⟩
  wf_get := fun ⟨_, _, _, _, _, h, _, _, _⟩ => h
  wf_put := fun ⟨h0, h1, h2, h3, h4, _, h6, h7, h8⟩ hb => ⟨h0, h1, h2, h3, h4, hb, h6, h7, h8⟩

theorem fluteBank : BankOf (fun s => s.models.flute) State.putFlute (fun p u => u.Wf p.fmt p.maxCap) where
  writes := fun _ _ => ⟨_, _, rfl⟩
  wf_get := fun ⟨_, _, _, _, _, _, h, _, _⟩ => h
  wf_put := fun ⟨h0, h1, h2, h3, h4, h5, _, h7, h8⟩ hb => ⟨h0, h1, h2, h3, h4, h5, hb, h7, h8⟩

theorem bowedBank : BankOf (fun s => s.models.bowed) State.putBowed (fun p u => u.Wf p.fmt p.maxCap) where
  writes := fun _ _ => ⟨_, _, rfl⟩
  wf_get := fun ⟨_, _, _, _, _, _, _, h, _⟩ => h
  wf_put := fun ⟨h0, h1, h2, h3, h4, h5, h6, _, h8⟩ hb => ⟨h0, h1, h2, h3, h4, h5, h6, hb, h8⟩

theorem brassBank : BankOf (fun s => s.models.brass) State.putBrass (fun p u => u.Wf p.fmt p.maxCap) where
  writes := fun _ _ => ⟨_, _, rfl⟩
  wf_get := fun ⟨_, _, _, _, _, _, _, _, h⟩ => h
  wf_put := fun ⟨h0, h1, h2, h3, h4, h5, h6, h7, _⟩ hb => ⟨h0, h1, h2, h3, h4, h5, h6, h7, hb⟩

/-! The banks of which `State.UnitsWf` says nothing -/

theorem biqBank : BankOf (fun s => s.units.biq) State.putBiq (fun _ _ => True) :=
  ⟨fun _ _ => ⟨_, _, rfl⟩, fun _ _ _ => trivial, fun h _ => h⟩
theorem opoleBank : BankOf (fun s => s.units.opole) State.putOpole (fun _ _ => True) :=
  ⟨fun _ _ => ⟨_, _, rfl⟩, fun _ _ _ => trivial, fun h _ => h⟩
theorem ozeroBank : BankOf (fun s => s.units.ozero) State.putOzero (fun _ _ => True) :=
  ⟨fun _ _ => ⟨_, _, rfl⟩, fun _ _ _ => trivial, fun h _ => h⟩
theorem dcbBank : BankOf (fun s => s.units.dcb) State.putDcb (fun _ _ => True) :=
  ⟨fun _ _ => ⟨_, _, rfl⟩, fun _ _ _ => trivial, fun h _ => h⟩
theorem adsrBank : BankOf (fun s => s.units.adsr) State.putAdsr (fun _ _ => True) :=
  ⟨fun _ _ => ⟨_, _, rfl⟩, fun _ _ _ => trivial, fun h _ => h⟩
theorem envBank : BankOf (fun s => s.units.env) State.putEnv (fun _ _ => True) :=
  ⟨fun _ _ => ⟨_, _, rfl⟩, fun _ _ _ => trivial, fun h _ => h⟩
theorem bowBank : BankOf (fun s => s.units.bow) State.putBow (fun _ _ => True) :=
  ⟨fun _ _ => ⟨_, _, rfl⟩, fun _ _ _ => trivial, fun h _ => h⟩
theorem reedBank : BankOf (fun s => s.units.reed) State.putReed (fun _ _ => True) :=
  ⟨fun _ _ => ⟨_, _, rfl⟩, fun _ _ _ => trivial, fun h _ => h⟩
theorem noiseBank : BankOf (fun s => s.units.noise) State.putNoise (fun _ _ => True) :=
  ⟨fun _ _ => ⟨_, _, rfl⟩, fun _ _ _ => trivial, fun h _ => h⟩

/-! ### What a command does outside the banks -/

/-- The commands that may take a draw or a free value (43_tables_noise_vibrato.md R250). -/
def TakesDraws (i : Instr) : Prop := i.isRender = true ∨ ∃ n, i = .noiseTick n ∨ i = .vibTick n

/-- Everything the command `i` can make of `s` outside the banks of instances (10_state.md R31-R34, 30_encoding.md R103,
60_exceptions.md R361, R363). -/
inductive Effect (i : Instr) (s : State) : State → Prop where
  /-- It completes: warnings alone are set, and each result goes to the commands listed for it. -/
  | completed {w : U32} {u : Units} {m : Models} {y : Flt} {noise : List Flt} {free : Nat} {out : List (Nat × Flt)}
      (hw : IsWarning w) (hy : i.writesY = false → y = s.y) (hd : ¬ TakesDraws i → noise = s.noiseIn ∧ free = s.free)
      (ho : i.isRender = false → out = s.out) :
      Effect i s { s.after w with units := u, models := m, y := y, noiseIn := noise, free := free, out := out }
  /-- It is abandoned; warnings before the error are those of a RENDER's control update (log 11). -/
  | abandoned {w e : U32} (hw : IsWarning w) (he : e ∈ errorBits) (hr : i.isRender = false → w = 0#32) :
      Effect i s (s.abandon w e)
  /-- A failing INIT leaves its model FAILED (44_models_common.md R276). -/
  | initFailed {w e : U32} {u : Units} {m : Models} (hi : i.isInit = true) (hw : IsWarning w) (he : e ∈ errorBits) :
      Effect i s { s.abandon w e with units := u, models := m }
  /-- `sys.clrstat` (R261). -/
  | statusCleared (hi : i = .sysClrstat) : Effect i s { s.start with status := 0 }
  /-- `sys.sreset` (R262). -/
  | softReset (hi : i = .sysSreset) : Effect i s s.softReset
  /-- `sys.setctx` (R263): one of SR and KR takes A0, which is finite and > 0. -/
  | contextSet {sr kr : Flt} (hi : i = .sysSetctx) (hfin : s.params.fmt.isFinite s.a0 = true)
      (hpos : positive s.params.fmt s.a0 = true) (h : (sr = s.a0 ∧ kr = s.kr) ∨ (sr = s.sr ∧ kr = s.a0)) :
      Effect i s { s.start with sr := sr, kr := kr }

/-- What holds of a run of the command `i` from `s` to `t`. -/
structure Runs (i : Instr) (s t : State) : Prop where
  effect : Effect i s t
  unitsWf : s.UnitsWf → t.UnitsWf

section
variable {i : Instr} {s t : State} {n : Nat}

/-- A command abandoned before it has warned. -/
theorem Runs.of_abandon {e : U32} (he : e ∈ errorBits) : Runs i s (s.abandon 0 e) := ⟨.abandoned .none he fun _ => rfl, id⟩

theorem Runs.of_illegal : Runs i s s.illegal := .of_abandon errIllegal_mem

/-! ### The shapes of a command -/

theorem unitRead_runs {α : Type} {bank : List α} {out : α → Flt} (h : unitRead bank n s out = .next t) (hy : i.writesY = true) :
    Runs i s t := by
  rcases unitRead_cases h with ⟨-, rfl⟩ | ⟨u, -, rfl⟩
  · exact .of_illegal
  · refine ⟨?_, id⟩
    rw [State.start_eq_after]
    exact .completed .none (fun h => absurd hy (by simp [h])) (fun _ => ⟨rfl, rfl⟩) fun _ => rfl

section
variable {α : Type} {get : State → List α} {put : State → List α → State} {Q : Params → α → Prop}

/-- Writing a bank at the end of a command that sets the warnings `w`. -/
theorem BankOf.put_effect (hb : BankOf get put Q) {w : U32} (hw : IsWarning w) (b : List α) :
    Effect i s (put (s.start.warn w) b) := by
  obtain ⟨u, m, hput⟩ := hb.writes (s.start.warn w) b
  rw [hput]
  exact .completed hw (fun _ => rfl) (fun _ => ⟨rfl, rfl⟩) fun _ => rfl

theorem BankOf.set_runs (hb : BankOf get put Q) {op : α → Res α} (h : unitSet (get s) put n s op = .next t)
    (hop : ∀ u, (op u).Meets fun u' => Q s.params u → Q s.params u') : Runs i s t := by
  rcases unitSet_cases h with ⟨-, rfl⟩ | ⟨u, w, e, -, ho, rfl⟩ | ⟨u, w, u', hu, ho, rfl⟩
  · exact .of_illegal
  · cases ho ▸ hop u with
    | raise he => exact .of_abandon he
  · cases ho ▸ hop u with
    | ok hw hq => exact ⟨hb.put_effect hw _, fun hs => hb.wf_set n hs rfl hs (hq (hb.wf_get hs u (List.mem_of_getElem? hu)))⟩

theorem BankOf.tick_runs (hb : BankOf get put Q) {op : α → Res (Flt × α)} (h : unitTick (get s) put n s op = .next t)
    (hy : i.writesY = true) (hop : ∀ u, (op u).Meets fun r => Q s.params u → Q s.params r.2) : Runs i s t := by
  rcases unitTick_cases h with ⟨-, rfl⟩ | ⟨u, w, e, -, ho, rfl⟩ | ⟨u, w, r, hu, ho, rfl⟩
  · exact .of_illegal
  · cases ho ▸ hop u with
    | raise he => exact .of_abandon he
  · cases ho ▸ hop u with
    | ok hw hq =>
      refine ⟨?_, fun hs => hb.wf_set n hs rfl hs (hq (hb.wf_get hs u (List.mem_of_getElem? hu)))⟩
      obtain ⟨us, ms, hput⟩ := hb.writes (s.start.warn w) ((get s).set n r.2)
      rw [hput]
      exact .completed hw (fun h => absurd hy (by simp [h])) (fun _ => ⟨rfl, rfl⟩) fun _ => rfl

/-- A setter that refuses nothing, on a bank of which `State.UnitsWf` says nothing. -/
theorem BankOf.update_runs (hb : BankOf get put fun _ _ => True) {g : α → α}
    (h : unitSet (get s) put n s (fun u => .ok 0 (g u)) = .next t) : Runs i s t := hb.set_runs h fun _ => .done id

/-- A tick that refuses nothing, on such a bank. -/
theorem BankOf.sample_runs (hb : BankOf get put fun _ _ => True) {g : α → Flt × α}
    (h : unitTick (get s) put n s (fun u => .ok 0 (g u)) = .next t) (hy : i.writesY = true) : Runs i s t :=
  hb.tick_runs h hy fun _ => .done id

theorem BankOf.draw_runs (hb : BankOf get put Q) {op : α → Fx → Res (Flt × α × Fx)} (h : unitDraw (get s) put n s op = .next t)
    (hy : i.writesY = true) (hd : TakesDraws i) (hop : ∀ u fx, (op u fx).Meets fun r => Q s.params u → Q s.params r.2.1) :
    Runs i s t := by
  rcases unitDraw_cases h with ⟨-, rfl⟩ | ⟨u, w, e, -, ho, rfl⟩ | ⟨u, w, r, hu, ho, rfl⟩
  · exact .of_illegal
  · cases ho ▸ hop u _ with
    | raise he => exact .of_abandon he
  · cases ho ▸ hop u _ with
    | ok hw hq =>
      refine ⟨?_, fun hs => hb.wf_set n hs rfl hs (hq (hb.wf_get hs u (List.mem_of_getElem? hu)))⟩
      obtain ⟨us, ms, hput⟩ := hb.writes (s.start.warn w) ((get s).set n r.2.1)
      rw [hput]
      exact .completed hw (fun h => absurd hy (by simp [h])) (absurd hd) fun _ => rfl

end

section
variable {M : Type} {k : ModelKit M} {get : State → List M} {put : State → List M → State} {Wf Ready : Params → M → Prop}

theorem ModelKit.Sound.setctl_runs (hk : k.Sound Wf Ready) (hb : BankOf get put Wf)
    (h : modelSetctl k (get s) put n s = .next t) : Runs i s t := by
  refine hb.set_runs h fun m => ?_
  split
  · exact .require errOperand_mem fun _ => .done fun hm => hk.wf_setHdr hm id
  · exact .raise errOperand_mem

theorem ModelKit.Sound.release_runs (hk : k.Sound Wf Ready) (hb : BankOf get put Wf)
    (h : modelRelease k (get s) put n s = .next t) : Runs i s t :=
  hb.set_runs h fun _ => .require errState_mem fun _ => .done fun hm => hk.wf_setHdr hm id

theorem ModelKit.Sound.init_runs (hk : k.Sound Wf Ready) (hb : BankOf get put Wf) (h : modelInit k (get s) put n s = .next t)
    (hi : i.isInit = true) : Runs i s t := by
  have hsig (m : M) := hk.initNote_signals s.ctx m (s.fx_lawful true)
  rcases modelInit_cases h with ⟨-, rfl⟩ | ⟨m, w, e, hm, ho, rfl⟩ | ⟨m, w, m', hm, ho, rfl⟩
  · exact .of_illegal
  · cases ho ▸ hsig m with
    | raise hw he =>
      refine ⟨?_, fun hs => hb.wf_set n hs rfl hs (hk.wf_setHdr (hb.wf_get hs m (List.mem_of_getElem? hm)) (nomatch ·))⟩
      obtain ⟨us, ms, hput⟩ := hb.writes (s.abandon w e) ((get s).set n (k.setHdr { k.hdr m with mstate := .failed } m))
      rw [hput]
      exact .initFailed hi hw he
  · cases ho ▸ hsig m with
    | ok hw => exact ⟨hb.put_effect hw _, fun hs => hb.wf_set n hs rfl hs (hk.wf_of_ready (hk.initNote_ready rfl ho))⟩

theorem ModelKit.Sound.render_runs (hk : k.Sound Wf Ready) (hb : BankOf get put Wf)
    (h : modelRender k (get s) put n s = .next t) (hi : i.isRender = true) : Runs i s t := by
  have hsig (m : M) := hk.renderBody_signals s.ctx s.iargNat m (s.fx_lawful true)
  have hno : ∀ {P : Prop}, i.isRender = false → P := fun h => absurd hi (by simp [h])
  rcases modelRender_cases h with ⟨-, rfl⟩ | ⟨m, -, -, rfl⟩ | ⟨m, w, e, -, -, ho, rfl⟩ | ⟨m, w, ys, m', fx, hm, hr, ho, rfl⟩
  · exact .of_illegal
  · exact .of_abandon errState_mem
  · cases ho ▸ hsig m with
    | raise hw he => exact ⟨.abandoned hw he hno, id⟩
  · cases ho ▸ hsig m with
    | ok hw =>
      have hready (hs : s.UnitsWf) := hk.ready_of_running (hb.wf_get hs m (List.mem_of_getElem? hm)) hr
      refine ⟨?_, fun hs => hb.wf_set n hs rfl hs (hk.wf_of_ready (hk.renderBody_ready ho (hready hs)))⟩
      obtain ⟨us, ms, hput⟩ := hb.writes (s.start.warn w) ((get s).set n m')
      rw [hput]
      exact .completed hw (fun _ => rfl) (absurd (.inl hi)) hno

end

/-! ### Block control (R260-R263) -/

/-- A soft reset leaves every unit and model as the reset state has it. -/
theorem State.softReset_unitsWf (s : State) : s.softReset.UnitsWf :=
  ⟨forall_mem_bank _ (Dln.reset_wf _), forall_mem_bank _ (Dla.reset_wf _), forall_mem_bank _ (Dll.reset_wf _),
    forall_mem_bank _ (Vib.reset_wf _), forall_mem_bank _ (Bar.reset_wf _ _), forall_mem_bank _ (Clar.reset_wf _ _),
    forall_mem_bank _ (Flute.reset_wf _ _), forall_mem_bank _ (Bowed.reset_wf _ _), forall_mem_bank _ (Brass.reset_wf _ _)⟩

theorem execSysNop_runs (h : execSysNop s = .next t) : Runs i s t := by
  cases h
  refine ⟨?_, id⟩
  rw [State.start_eq_after]
  exact .completed .none (fun _ => rfl) (fun _ => ⟨rfl, rfl⟩) fun _ => rfl

theorem execSysSetctx_runs (h : execSysSetctx s = .next t) : Runs .sysSetctx s t := by
  unfold execSysSetctx at h
  split at h
  · cases h
    exact .of_abandon errOperand_mem
  split at h
  · cases h
    exact .of_abandon errOperand_mem
  next hv =>
    obtain ⟨hfin, hpos⟩ : s.params.fmt.isFinite s.a0 = true ∧ positive s.params.fmt s.a0 = true := by simpa using hv
    split at h <;> cases h
    · exact ⟨.contextSet rfl hfin hpos (.inl ⟨rfl, rfl⟩), id⟩
    · exact ⟨.contextSet rfl hfin hpos (.inr ⟨rfl, rfl⟩), id⟩

end

/-- What every command does (30_encoding.md R103), arm by arm: the shape of the command, its bank, and what its rule meets. -/
theorem exec_runs {i : Instr} {s t : State} (h : exec i s = .next t) : Runs i s t := by
  cases i with
  | sysNop => exact execSysNop_runs h
  | sysClrstat =>
    cases h
    exact ⟨.statusCleared rfl, id⟩
  | sysSreset =>
    cases h
    exact ⟨.softReset rfl, fun _ => s.softReset_unitsWf⟩
  | sysSetctx => exact execSysSetctx_runs h
  | dlnCfg n => exact dlnBank.set_runs h fun _ => (Dln.cfg_meets ..).imp fun _ hu' _ => hu'.1
  | dlnSetdel n => exact dlnBank.set_runs h fun _ => (Dln.setdel_meets ..).imp fun _ hu' hu => (hu' hu).1
  | dlnTick n =>
    exact dlnBank.tick_runs h rfl fun _ =>
      .require errUnsized_mem fun hc => .done fun hu => (Dln.tick_wf _ hu (of_decide_eq_true hc)).1
  | dlaCfg n => exact dlaBank.set_runs h fun _ => (Dla.cfg_meets ..).imp fun _ hu' _ => hu'.1
  | dlaSetdel n => exact dlaBank.set_runs h fun _ => (Dla.setdel_meets ..).imp fun _ hu' hu => (hu' hu).1
  | dlaTick n =>
    exact dlaBank.tick_runs h rfl fun _ =>
      .require errUnsized_mem fun hc => .done fun hu => (Dla.tick_wf _ hu (of_decide_eq_true hc)).1
  | dllCfg n => exact dllBank.set_runs h fun _ => (Dll.cfg_meets ..).imp fun _ hu' _ => hu'.1
  | dllSetdel n => exact dllBank.set_runs h fun _ => (Dll.setdel_meets ..).imp fun _ hu' hu => (hu' hu).1
  | dllTick n =>
    exact dllBank.tick_runs h rfl fun _ =>
      .require errUnsized_mem fun hc => .done fun hu => (Dll.tick_wf _ hu (of_decide_eq_true hc)).1
  | dlnLast n | dlaLast n | dllLast n | biqLast n | opoleLast n | ozeroLast n | dcbLast n | adsrLast n | envLast n
  | bowLookup n | reedLookup n | jetLookup n | noiseLast n | vibLast n => exact unitRead_runs h rfl
  | biqSetfr n => exact biqBank.set_runs h fun _ => (Biq.setfr_meets ..).imp fun _ _ => id
  | adsrSettimes n => exact adsrBank.set_runs h fun _ => (Adsr.settimes_meets ..).imp fun _ _ => id
  | adsrSetatk n => exact adsrBank.set_runs h fun _ => (Adsr.setatk_meets ..).imp fun _ _ => id
  | adsrSetrel n => exact adsrBank.set_runs h fun _ => (Adsr.setrel_meets ..).imp fun _ _ => id
  | envSetrate n => exact envBank.set_runs h fun _ => (Env.setrate_meets ..).imp fun _ _ => id
  | biqSetegz n | biqSetgain n | biqClear n => exact biqBank.update_runs h
  | opoleSetgain n | opoleSetcoef n => exact opoleBank.update_runs h
  | ozeroSetgain n | ozeroSetcoef n => exact ozeroBank.update_runs h
  | adsrSettarget n | adsrKeyon n | adsrKeyoff n => exact adsrBank.update_runs h
  | envSettarget n | envKeyon n | envKeyoff n => exact envBank.update_runs h
  | bowSetslope n => exact bowBank.update_runs h
  | reedSetoffset n | reedSetslope n => exact reedBank.update_runs h
  | biqTick n => exact biqBank.sample_runs h rfl
  | opoleTick n => exact opoleBank.sample_runs h rfl
  | ozeroTick n => exact ozeroBank.sample_runs h rfl
  | dcbTick n => exact dcbBank.sample_runs h rfl
  | adsrTick n => exact adsrBank.sample_runs h rfl
  | envTick n => exact envBank.sample_runs h rfl
  | noiseTick n =>
    exact noiseBank.draw_runs (op := fun u fx => .ok 0 (u.tick s.params.fmt fx)) h rfl (.inr ⟨n, .inl rfl⟩)
      fun _ _ => .done id
  | vibSettab n => exact vibBank.set_runs h fun _ => (Vib.settab_meets ..).imp fun _ hu' _ => hu'.1
  | vibSetfreq n => exact vibBank.set_runs h fun _ => (Vib.setfreq_meets ..).imp fun _ hu' hu => (hu' hu).1
  | vibTick n => exact vibBank.draw_runs h rfl (.inr ⟨n, .inr rfl⟩) fun _ _ => (Vib.tick_meets ..).imp fun _ hr _ => hr.1
  | barSetctl n => exact barKit_sound.setctl_runs barBank h
  | barInit n => exact barKit_sound.init_runs barBank h rfl
  | barRender n => exact barKit_sound.render_runs barBank h rfl
  | barRelease n => exact barKit_sound.release_runs barBank h
  | clarSetctl n => exact clarKit_sound.setctl_runs clarBank h
  | clarInit n => exact clarKit_sound.init_runs clarBank h rfl
  | clarRender n => exact clarKit_sound.render_runs clarBank h rfl
  | clarRelease n => exact clarKit_sound.release_runs clarBank h
  | fluteSetctl n => exact fluteKit_sound.setctl_runs fluteBank h
  | fluteInit n => exact fluteKit_sound.init_runs fluteBank h rfl
  | fluteRender n => exact fluteKit_sound.render_runs fluteBank h rfl
  | fluteRelease n => exact fluteKit_sound.release_runs fluteBank h
  | bowedSetctl n => exact bowedKit_sound.setctl_runs bowedBank h
  | bowedInit n => exact bowedKit_sound.init_runs bowedBank h rfl
  | bowedRender n => exact bowedKit_sound.render_runs bowedBank h rfl
  | bowedRelease n => exact bowedKit_sound.release_runs bowedBank h
  | brassSetctl n => exact brassKit_sound.setctl_runs brassBank h
  | brassInit n => exact brassKit_sound.init_runs brassBank h rfl
  | brassRender n => exact brassKit_sound.render_runs brassBank h rfl
  | brassRelease n => exact brassKit_sound.release_runs brassBank h

/-! ### Steps -/

/-- Everything a step can do (10_state.md R32, R36; log 1): nothing, a host write that issues no command, or a command word in
CMD, which is illegal or runs its command. -/
theorem step_cases {s t : State} (h : step s = .next t) :
    t = s ∨ ∃ hw rest, s.pending = hw :: rest
      ∧ (t = State.hostWrite { s with pending := rest } hw
        ∨ t = (State.hostWrite { s with pending := rest } hw).illegal
        ∨ ∃ i, exec i (State.hostWrite { s with pending := rest } hw) = .next t) := by
  unfold step at h
  split at h
  · cases h
    exact .inl rfl
  · next hw rest hp =>
    refine .inr ⟨hw, rest, hp, ?_⟩
    dsimp only at h
    split at h
    · next w =>
      unfold issue at h
      split at h
      · cases h
        exact .inr (.inl rfl)
      · exact .inr (.inr ⟨_, h⟩)
    all_goals
      cases h
      exact .inl rfl

/-- What the host's writes and every command keep, every step keeps; an illegal word is abandoned as a command is. -/
theorem step_preserves {P : State → Prop} (hwrite : ∀ s rest hw, P s → P (State.hostWrite { s with pending := rest } hw))
    (hillegal : ∀ s, P s → P s.illegal) (hexec : ∀ i s t, exec i s = .next t → P s → P t) {s t : State} (h : step s = .next t)
    (hs : P s) : P t := by
  rcases step_cases h with rfl | ⟨hw, rest, -, rfl | rfl | ⟨i, hi⟩⟩
  · exact hs
  · exact hwrite s rest hw hs
  · exact hillegal _ (hwrite s rest hw hs)
  · exact hexec i _ t hi (hwrite s rest hw hs)

/-! ### The invariants (R31, R33, R38, R48, R276) -/

theorem State.hostWrite_unitsWf (s : State) (rest : List HostWrite) (hw : HostWrite) (hs : s.UnitsWf) :
    (State.hostWrite { s with pending := rest } hw).UnitsWf := by
  cases hw with
  | reset => exact State.softReset_unitsWf _
  | _ => exact hs

/-- Settles O8: a step is a host write, an illegal word or a command, and `exec_runs` goes through the commands. -/
theorem stepKeepsUnitsWellFormed : Obligations.StepKeepsUnitsWellFormed := fun _ _ hs h =>
  step_preserves State.hostWrite_unitsWf (fun _ => id) (fun _ _ _ hi => (exec_runs hi).unitsWf) h hs

theorem State.hostWrite_statusWf (s : State) (rest : List HostWrite) (hw : HostWrite) (hs : s.StatusWf) :
    (State.hostWrite { s with pending := rest } hw).StatusWf := by
  cases hw with
  | reset => exact BitVec.zero_and
  | _ => exact hs

theorem Effect.statusWf {i : Instr} {s t : State} (h : Effect i s t) (hs : s.StatusWf) : t.StatusWf := by
  cases h with
  | completed hw _ _ _ => exact State.after_statusWf hs hw.defined
  | abandoned hw he _ => exact State.after_statusWf hs (abandon_defined hw he)
  | initFailed _ hw he => exact State.after_statusWf hs (abandon_defined hw he)
  | statusCleared _ => exact BitVec.zero_and
  | softReset _ => exact BitVec.zero_and
  | contextSet _ _ _ _ => exact State.start_eq_after s ▸ State.after_statusWf hs BitVec.zero_and

/-- Settles O9: every command sets defined bits alone. -/
theorem stepKeepsReservedStatusZero : Obligations.StepKeepsReservedStatusZero := fun _ _ hs h =>
  step_preserves State.hostWrite_statusWf (fun _ hs => State.after_statusWf hs (abandon_defined .none errIllegal_mem))
    (fun _ _ _ hi => (exec_runs hi).effect.statusWf) h hs

/-! ### The host context (R31, R263, R364) -/

/-- A command changes SR or KR only where it is sys.setctx, and then one of them to A0, which is finite and > 0. -/
theorem Effect.context {i : Instr} {s t : State} (h : Effect i s t) :
    t.params = s.params ∧ ((t.sr = s.sr ∧ t.kr = s.kr)
      ∨ (i = .sysSetctx ∧ s.params.fmt.isFinite s.a0 = true ∧ positive s.params.fmt s.a0 = true
        ∧ ((t.sr = s.a0 ∧ t.kr = s.kr) ∨ (t.sr = s.sr ∧ t.kr = s.a0)))) := by
  cases h with
  | contextSet hi hfin hpos h => exact ⟨rfl, .inr ⟨hi, hfin, hpos, h⟩⟩
  | _ => exact ⟨rfl, .inl ⟨rfl, rfl⟩⟩

theorem State.hostWrite_contextWf (s : State) (rest : List HostWrite) (hw : HostWrite) (hs : s.ContextWf) :
    (State.hostWrite { s with pending := rest } hw).ContextWf := by
  cases hw with
  | reset => exact ⟨.inl rfl, .inl rfl⟩
  | _ => exact hs

theorem Effect.contextWf {i : Instr} {s t : State} (h : Effect i s t) (hs : s.ContextWf) : t.ContextWf := by
  obtain ⟨hp, ⟨hsr, hkr⟩ | ⟨-, hfin, hpos, ⟨hsr, hkr⟩ | ⟨hsr, hkr⟩⟩⟩ := h.context
    <;> unfold State.ContextWf <;> rw [hp, hsr, hkr]
  · exact hs
  · exact ⟨.inr ⟨hfin, hpos⟩, hs.2⟩
  · exact ⟨hs.1, .inr ⟨hfin, hpos⟩⟩

/-- No command leaves SR or KR not > 0 where it was > 0. -/
theorem Effect.context_positive {i : Instr} {s t : State} (h : Effect i s t) :
    (positive s.params.fmt s.sr = true → positive t.params.fmt t.sr = true)
      ∧ (positive s.params.fmt s.kr = true → positive t.params.fmt t.kr = true) := by
  obtain ⟨hp, ⟨hsr, hkr⟩ | ⟨-, -, hpos, ⟨hsr, hkr⟩ | ⟨hsr, hkr⟩⟩⟩ := h.context <;> rw [hp, hsr, hkr]
  · exact ⟨id, id⟩
  · exact ⟨fun _ => hpos, id⟩
  · exact ⟨id, fun _ => hpos⟩

/-- Settles O11: `Effect.context` says what a command makes of SR and KR. -/
theorem onlySetctxWritesContext : Obligations.OnlySetctxWritesContext := by
  refine ⟨fun i s t h hi => ?_, fun i s t h => (exec_runs h).effect.context_positive, fun s t hs h => ?_⟩
  · exact (exec_runs h).effect.context.2.resolve_right fun hset => hi hset.1
  · exact step_preserves State.hostWrite_contextWf (fun _ => id) (fun _ _ _ hi => (exec_runs hi).effect.contextWf) h hs

/-! ### Results and abandoned commands (R32, R34, R76, R103, R250, R361, R363) -/

/-- A command that completes with warnings alone does not end with CMD_FAIL set. -/
theorem State.after_not_failed {s : State} {w : U32} (hw : IsWarning w) : ¬ (s.after w).status &&& 0x8000#32 ≠ 0#32 := by
  rw [State.after_cmdFail, hw.cmdFail]
  exact fun h => h rfl

/-- Settles O13: a command that completes passes its results on as `Effect.completed` lists them, every other one keeps them. -/
theorem onlyTheListedCommandsWriteResults : Obligations.OnlyTheListedCommandsWriteResults := by
  intro i s t h
  cases (exec_runs h).effect with
  | completed hw hy hd ho =>
    refine ⟨hy, fun _ hfail => absurd hfail (State.after_not_failed hw), ho, fun hr hn => hd ?_⟩
    rintro (hr' | ⟨n, hi | hi⟩)
    · simp [hr] at hr'
    · exact (hn n).1 hi
    · exact (hn n).2 hi
  | _ => exact ⟨fun _ => rfl, fun _ _ => rfl, fun _ => rfl, fun _ _ => ⟨rfl, rfl⟩⟩

/-- Settles O14: of the outcomes in `Effect` only an abandoned command and a failing INIT set CMD_FAIL. -/
theorem abandonedCommandChangesOnlyStatus : Obligations.AbandonedCommandChangesOnlyStatus := by
  intro i s t h hinit hfail
  cases (exec_runs h).effect with
  | completed hw _ _ _ => exact absurd hfail (State.after_not_failed hw)
  | @abandoned w e hw he hr =>
    refine ⟨e, he, w, hw, hr, ?_⟩
    rw [State.abandon_eq_after]
    congr 1
    ac_rfl
  | initFailed hi _ _ => simp [hinit] at hi
  | statusCleared _ => exact absurd BitVec.zero_and hfail
  | softReset _ => exact absurd BitVec.zero_and hfail
  | contextSet _ _ _ _ => exact absurd hfail (State.start_eq_after s ▸ State.after_not_failed .none)

/-- Settles O15: every other command clears CMD_FAIL and sets bits. -/
theorem stickyBitsStay : Obligations.StickyBitsStay := by
  intro i s t h hclr hres
  cases (exec_runs h).effect with
  | completed _ _ _ _ => exact State.after_sticky s _
  | abandoned _ _ _ => exact State.after_sticky s _
  | initFailed _ _ _ => exact State.after_sticky s _
  | statusCleared hi => exact absurd hi hclr
  | softReset hi => exact absurd hi hres
  | contextSet _ _ _ _ => exact State.start_eq_after s ▸ State.after_sticky s 0#32

/-! ### The host's writes (R32, R380; 20_memory.md R74) -/

/-- No entry at `k`, no answer there. -/
theorem Assoc.find_eq_none {β : Type} {k : Nat} {m : List (Nat × β)} (h : ∀ e ∈ m, e.1 ≠ k) : Assoc.find k m = none := by
  induction m with
  | nil => rfl
  | cons x rest ih =>
    obtain ⟨hx, hrest⟩ := List.forall_mem_cons.mp h
    exact (if_neg hx).trans (ih hrest)

/-- What was removed is gone: rising keys occur once. -/
theorem Assoc.find_erase_self {β : Type} (k : Nat) {m : List (Nat × β)} (h : Assoc.wf m = true) :
    Assoc.find k (Assoc.erase k m) = none := by
  induction m with
  | nil => rfl
  | cons x rest ih =>
    obtain ⟨j, u⟩ := x
    obtain ⟨hlt, hrest⟩ := Assoc.wf_cons.mp h
    by_cases hj : j = k
    · subst hj
      simpa [Assoc.erase] using Assoc.find_eq_none fun e he => (hlt e he).ne'
    · simpa [Assoc.erase, Assoc.find, hj] using ih hrest

/-- A removal leaves every other place alone. -/
theorem Assoc.find_erase_ne {β : Type} {k j : Nat} (h : j ≠ k) (m : List (Nat × β)) :
    Assoc.find j (Assoc.erase k m) = Assoc.find j m := by
  induction m with
  | nil => rfl
  | cons x rest ih =>
    obtain ⟨i, u⟩ := x
    by_cases hi : i = k
    · subst hi
      simp [Assoc.erase, Assoc.find, h.symm]
    · simp [Assoc.erase, Assoc.find, hi, ih]

/-- Id 0 never names a table. -/
theorem Tables.find_zero {tables : List (Nat × List Flt)} (h : Tables.wf tables = true) : Assoc.find 0 tables = none := by
  simp only [Tables.wf, Bool.and_eq_true, List.all_eq_true, decide_eq_true_eq] at h
  exact Assoc.find_eq_none fun e he => (h.2 e he).1.1.ne'

/-- What the port answers after the host gave table `id` the words `ws` (20_memory.md R74). -/
theorem Tables.find_put (f : Fmt) (id : U32) (ws : List Flt) {tables : List (Nat × List Flt)} (h : Tables.wf tables = true) :
    (id ≠ 0#32 → ws ≠ [] → Assoc.find id.toNat (Tables.put f id ws tables) = some (ws.map f.fit))
      ∧ (ws = [] → Assoc.find id.toNat (Tables.put f id ws tables) = none)
      ∧ ∀ j, j ≠ id.toNat → Assoc.find j (Tables.put f id ws tables) = Assoc.find j tables := by
  have hwf : Assoc.wf tables = true := (Bool.and_eq_true_iff.mp h).1
  unfold Tables.put
  split
  · next h0 =>
    refine ⟨fun hid => absurd (BitVec.eq_of_toNat_eq h0) hid, fun _ => h0 ▸ Tables.find_zero h, fun _ _ => rfl⟩
  · split
    · next hws =>
      have hnil : ws = [] := List.isEmpty_iff.mp hws
      exact ⟨fun _ hne => absurd hnil hne, fun _ => Assoc.find_erase_self _ hwf, fun j hj => Assoc.find_erase_ne hj _⟩
    · next hws =>
      exact ⟨fun _ _ => Assoc.find_insert_self .., fun hnil => absurd (List.isEmpty_iff.mpr hnil) hws,
        fun j hj => Assoc.find_insert_ne hj ..⟩

/-- A step with a host write that issues no command is that write. -/
theorem step_hostWrite {s : State} {hw : HostWrite} {rest : List HostWrite} (h : s.pending = hw :: rest)
    (hcmd : ∀ w, hw ≠ .cmd w) : step s = .next (State.hostWrite { s with pending := rest } hw) := by
  unfold step
  rw [h]
  cases hw with
  | cmd w => exact absurd rfl (hcmd w)
  | _ => rfl

theorem step_of_idle {s : State} (h : s.pending = []) : step s = .next s := by
  unfold step
  rw [h]

/-- Settles O6: an operand write is `State.hostWrite`, and `Tables.find_put` says what a table write does. -/
theorem hostWritesLand : Obligations.HostWritesLand := by
  refine ⟨fun s => step_of_idle, fun s rest v n id ws => ?_⟩
  refine ⟨(step_hostWrite · nofun), (step_hostWrite · nofun), (step_hostWrite · nofun), (step_hostWrite · nofun),
    (step_hostWrite · nofun), fun h hwf => ⟨Tables.put s.params.fmt id ws s.tables, step_hostWrite h nofun, ?_⟩⟩
  obtain ⟨hinstalled, hremoved, hothers⟩ := Tables.find_put s.params.fmt id ws hwf
  exact ⟨hinstalled, hremoved, Tables.find_zero (Tables.put_wf s.params.fmt id ws hwf), hothers⟩

end Sys2Proof.Machine

/-! PROOFS. 20_memory.md: a step issues the word written to CMD (R82, R100), a command reaches its own unit or model alone (R81), and the
host's memories keep their canonical form (R74, R76). -/

namespace Sys2Proof.Machine

/-! ### A write to CMD (R82; 30_encoding.md R100, R107) -/

/-- A step with a write to CMD stores the word and issues it. -/
theorem step_cmd {s : State} {w : U32} {rest : List HostWrite} (h : s.pending = .cmd w :: rest) :
    step s = issue w { s with pending := rest, cmd := w } := by
  unfold step
  rw [h]
  rfl

theorem issue_of_decode {w : U32} {i : Instr} (h : decode w = .ok i) (s : State) : issue w s = exec i s := by
  unfold issue
  rw [h]

/-- Settles O5: `step_cmd`, and `issue_of_decode` where the word is legal. -/
theorem stepRunsTheDecodedCommand : Obligations.StepRunsTheDecodedCommand := fun _ _ _ hp =>
  ⟨step_cmd hp, fun _ hi => (step_cmd hp).trans (issue_of_decode hi _)⟩

/-! ### The bank of a class (30_encoding.md R104) -/

/-- `get` and `put` read and write the bank of the class with this CLASS number. -/
inductive IsBank : (cls : Nat) → {α : Type} → (State → List α) → (State → List α → State) → Prop where
  | dln : IsBank 1 (fun s => s.units.dln) State.putDln
  | dla : IsBank 2 (fun s => s.units.dla) State.putDla
  | dll : IsBank 3 (fun s => s.units.dll) State.putDll
  | biq : IsBank 4 (fun s => s.units.biq) State.putBiq
  | opole : IsBank 5 (fun s => s.units.opole) State.putOpole
  | ozero : IsBank 6 (fun s => s.units.ozero) State.putOzero
  | dcb : IsBank 7 (fun s => s.units.dcb) State.putDcb
  | adsr : IsBank 8 (fun s => s.units.adsr) State.putAdsr
  | env : IsBank 9 (fun s => s.units.env) State.putEnv
  | bow : IsBank 10 (fun s => s.units.bow) State.putBow
  | reed : IsBank 11 (fun s => s.units.reed) State.putReed
  | jet : IsBank 12 (fun s => s.units.jet) State.putJet
  | noise : IsBank 13 (fun s => s.units.noise) State.putNoise
  | vib : IsBank 14 (fun s => s.units.vib) State.putVib
  | bar : IsBank 16 (fun s => s.models.bar) State.putBar
  | clar : IsBank 17 (fun s => s.models.clar) State.putClar
  | flute : IsBank 18 (fun s => s.models.flute) State.putFlute
  | bowed : IsBank 19 (fun s => s.models.bowed) State.putBowed
  | brass : IsBank 20 (fun s => s.models.brass) State.putBrass

/-- `s` and `t` hold the same instances of every class. -/
abbrev State.SameBanks (s t : State) : Prop := t.units = s.units ∧ t.models = s.models

theorem State.SameBanks.sameInstance_iff {s t t' : State} (h : t.SameBanks t') (cls j : Nat) :
    s.sameInstance t' cls j ↔ s.sameInstance t cls j := by
  obtain ⟨hu, hm⟩ := h
  unfold State.sameInstance
  rw [hu, hm]

theorem State.sameInstance_refl (s : State) (cls j : Nat) : s.sameInstance s cls j := by
  unfold State.sameInstance
  split <;> trivial

section
variable {cls n : Nat} {α : Type} {get : State → List α} {put : State → List α → State} {s t : State}

/-- What a write makes of the banks does not depend on STATUS. -/
theorem IsBank.put_sameBanks (hb : IsBank cls get put) (s : State) (status : U32) (b : List α) :
    (put s b).SameBanks (put { s with status := status } b) := by
  cases hb <;> exact ⟨rfl, rfl⟩

/-- A write to the bank of one class leaves the instances of the others: each of them is read back from a field it did not write. -/
theorem IsBank.put_sameInstance_of_ne (hb : IsBank cls get put) (b : List α) {c : Nat} (hc : c ≠ cls) (j : Nat) :
    s.sameInstance (put s b) c j := by
  cases hb <;> (unfold State.sameInstance; split) <;> trivial

/-- Replacing number `n` of a class leaves the others of that class. -/
theorem IsBank.set_sameInstance_of_ne (hb : IsBank cls get put) (u : α) {j : Nat} (hj : j ≠ n) :
    s.sameInstance (put s ((get s).set n u)) cls j := by
  cases hb <;> exact List.getElem?_set_ne hj.symm

/-! ### What a command does to the banks (R81, 60_exceptions.md R378) -/

/-- From `s` to `t` at most number `n` of the instances of the class `cls` changes. -/
inductive ChangesAtMost (cls n : Nat) (s t : State) : Prop where
  | kept (h : s.SameBanks t)
  | replaced {α : Type} {get : State → List α} {put : State → List α → State} (hb : IsBank cls get put) (u : α)
      (h : (put s ((get s).set n u)).SameBanks t)

theorem ChangesAtMost.sameInstance (h : ChangesAtMost cls n s t) {c j : Nat} (hne : ¬ (c = cls ∧ j = n)) :
    s.sameInstance t c j := by
  cases h with
  | kept h => exact (h.sameInstance_iff c j).mpr (s.sameInstance_refl c j)
  | replaced hb u h =>
    refine (h.sameInstance_iff c j).mpr ?_
    by_cases hc : c = cls
    · exact hc ▸ hb.set_sameInstance_of_ne u fun hj => hne ⟨hc, hj⟩
    · exact hb.put_sameInstance_of_ne _ hc j

/-- One unit or model replaced after STATUS alone was written. -/
theorem IsBank.changes (hb : IsBank cls get put) {status : U32} {u : α}
    (h : (put { s with status := status } ((get s).set n u)).SameBanks t) : ChangesAtMost cls n s t :=
  have hput := hb.put_sameBanks s status ((get s).set n u)
  .replaced hb u ⟨h.1.trans hput.1, h.2.trans hput.2⟩

theorem unitRead_changes {bank : List α} {out : α → Flt} {m : Nat} (h : unitRead bank m s out = .next t) :
    ChangesAtMost cls n s t := by
  rcases unitRead_cases h with ⟨-, rfl⟩ | ⟨u, -, rfl⟩ <;> exact .kept ⟨rfl, rfl⟩

theorem IsBank.unitSet_changes (hb : IsBank cls get put) {op : α → Res α} (h : unitSet (get s) put n s op = .next t) :
    ChangesAtMost cls n s t := by
  rcases unitSet_cases h with ⟨-, rfl⟩ | ⟨u, w, e, -, -, rfl⟩ | ⟨u, w, u', -, -, rfl⟩
  · exact .kept ⟨rfl, rfl⟩
  · exact .kept ⟨rfl, rfl⟩
  · exact hb.changes ⟨rfl, rfl⟩

theorem IsBank.unitTick_changes (hb : IsBank cls get put) {op : α → Res (Flt × α)}
    (h : unitTick (get s) put n s op = .next t) : ChangesAtMost cls n s t := by
  rcases unitTick_cases h with ⟨-, rfl⟩ | ⟨u, w, e, -, -, rfl⟩ | ⟨u, w, r, -, -, rfl⟩
  · exact .kept ⟨rfl, rfl⟩
  · exact .kept ⟨rfl, rfl⟩
  · exact hb.changes ⟨rfl, rfl⟩

/-- A setter that refuses nothing. -/
theorem IsBank.update_changes (hb : IsBank cls get put) {g : α → α}
    (h : unitSet (get s) put n s (fun u => .ok 0 (g u)) = .next t) : ChangesAtMost cls n s t := hb.unitSet_changes h

/-- A tick that refuses nothing. -/
theorem IsBank.sample_changes (hb : IsBank cls get put) {g : α → Flt × α}
    (h : unitTick (get s) put n s (fun u => .ok 0 (g u)) = .next t) : ChangesAtMost cls n s t := hb.unitTick_changes h

theorem IsBank.unitDraw_changes (hb : IsBank cls get put) {op : α → Fx → Res (Flt × α × Fx)}
    (h : unitDraw (get s) put n s op = .next t) : ChangesAtMost cls n s t := by
  rcases unitDraw_cases h with ⟨-, rfl⟩ | ⟨u, w, e, -, -, rfl⟩ | ⟨u, w, r, -, -, rfl⟩
  · exact .kept ⟨rfl, rfl⟩
  · exact .kept ⟨rfl, rfl⟩
  · exact hb.changes ⟨rfl, rfl⟩

theorem IsBank.modelInit_changes (hb : IsBank cls get put) {k : ModelKit α} (h : modelInit k (get s) put n s = .next t) :
    ChangesAtMost cls n s t := by
  rcases modelInit_cases h with ⟨-, rfl⟩ | ⟨m, w, e, -, -, rfl⟩ | ⟨m, w, m', -, -, rfl⟩
  · exact .kept ⟨rfl, rfl⟩
  · exact hb.changes ⟨rfl, rfl⟩
  · exact hb.changes ⟨rfl, rfl⟩

theorem IsBank.modelRender_changes (hb : IsBank cls get put) {k : ModelKit α}
    (h : modelRender k (get s) put n s = .next t) : ChangesAtMost cls n s t := by
  rcases modelRender_cases h with ⟨-, rfl⟩ | ⟨m, -, -, rfl⟩ | ⟨m, w, e, -, -, -, rfl⟩ | ⟨m, w, ys, m', fx, -, -, -, rfl⟩
  · exact .kept ⟨rfl, rfl⟩
  · exact .kept ⟨rfl, rfl⟩
  · exact .kept ⟨rfl, rfl⟩
  · exact hb.changes ⟨rfl, rfl⟩

theorem execSysSetctx_sameBanks (h : execSysSetctx s = .next t) : s.SameBanks t := by
  unfold execSysSetctx at h
  repeat' split at h
  all_goals
    cases h
    exact ⟨rfl, rfl⟩

end

/-- Every command but `sys.sreset` changes at most the unit or model its word names, arm by arm: its bank and its shape. -/
theorem exec_changes {i : Instr} {s t : State} (h : exec i s = .next t) (hi : i ≠ .sysSreset) :
    ChangesAtMost i.cls i.inst s t := by
  cases i with
  | sysNop | sysClrstat =>
    cases h
    exact .kept ⟨rfl, rfl⟩
  | sysSreset => exact absurd rfl hi
  | sysSetctx => exact .kept (execSysSetctx_sameBanks h)
  | dlnLast n | dlaLast n | dllLast n | biqLast n | opoleLast n | ozeroLast n | dcbLast n | adsrLast n | envLast n
  | bowLookup n | reedLookup n | jetLookup n | noiseLast n | vibLast n => exact unitRead_changes h
  | dlnCfg n | dlnSetdel n => exact IsBank.dln.unitSet_changes h
  | dlaCfg n | dlaSetdel n => exact IsBank.dla.unitSet_changes h
  | dllCfg n | dllSetdel n => exact IsBank.dll.unitSet_changes h
  | biqSetfr n => exact IsBank.biq.unitSet_changes h
  | adsrSettimes n | adsrSetatk n | adsrSetrel n => exact IsBank.adsr.unitSet_changes h
  | envSetrate n => exact IsBank.env.unitSet_changes h
  | vibSettab n | vibSetfreq n => exact IsBank.vib.unitSet_changes h
  | barSetctl n | barRelease n => exact IsBank.bar.unitSet_changes h
  | clarSetctl n | clarRelease n => exact IsBank.clar.unitSet_changes h
  | fluteSetctl n | fluteRelease n => exact IsBank.flute.unitSet_changes h
  | bowedSetctl n | bowedRelease n => exact IsBank.bowed.unitSet_changes h
  | brassSetctl n | brassRelease n => exact IsBank.brass.unitSet_changes h
  | biqSetegz n | biqSetgain n | biqClear n => exact IsBank.biq.update_changes h
  | opoleSetgain n | opoleSetcoef n => exact IsBank.opole.update_changes h
  | ozeroSetgain n | ozeroSetcoef n => exact IsBank.ozero.update_changes h
  | adsrSettarget n | adsrKeyon n | adsrKeyoff n => exact IsBank.adsr.update_changes h
  | envSettarget n | envKeyon n | envKeyoff n => exact IsBank.env.update_changes h
  | bowSetslope n => exact IsBank.bow.update_changes h
  | reedSetoffset n | reedSetslope n => exact IsBank.reed.update_changes h
  | dlnTick n => exact IsBank.dln.unitTick_changes h
  | dlaTick n => exact IsBank.dla.unitTick_changes h
  | dllTick n => exact IsBank.dll.unitTick_changes h
  | biqTick n => exact IsBank.biq.sample_changes h
  | opoleTick n => exact IsBank.opole.sample_changes h
  | ozeroTick n => exact IsBank.ozero.sample_changes h
  | dcbTick n => exact IsBank.dcb.sample_changes h
  | adsrTick n => exact IsBank.adsr.sample_changes h
  | envTick n => exact IsBank.env.sample_changes h
  | noiseTick n => exact IsBank.noise.unitDraw_changes (op := fun u fx => .ok 0 (u.tick s.params.fmt fx)) h
  | vibTick n => exact IsBank.vib.unitDraw_changes h
  | barInit n => exact IsBank.bar.modelInit_changes h
  | clarInit n => exact IsBank.clar.modelInit_changes h
  | fluteInit n => exact IsBank.flute.modelInit_changes h
  | bowedInit n => exact IsBank.bowed.modelInit_changes h
  | brassInit n => exact IsBank.brass.modelInit_changes h
  | barRender n => exact IsBank.bar.modelRender_changes h
  | clarRender n => exact IsBank.clar.modelRender_changes h
  | fluteRender n => exact IsBank.flute.modelRender_changes h
  | bowedRender n => exact IsBank.bowed.modelRender_changes h
  | brassRender n => exact IsBank.brass.modelRender_changes h

/-- Settles O16: `exec_changes` names the one unit or model a command can replace. -/
theorem commandsTouchOnlyTheirInstance : Obligations.CommandsTouchOnlyTheirInstance := fun _ _ _ h hi _ _ hne =>
  (exec_changes h hi).sameInstance hne

/-! ### The host's memories (R74, R76) -/

theorem Effect.tables {i : Instr} {s t : State} (h : Effect i s t) : t.tables = s.tables := by
  cases h <;> rfl

/-- A RENDER leaves in output memory what it found there, or its block over it (44_models_common.md R285). -/
theorem BankOf.modelRender_out {M : Type} {k : ModelKit M} {get : State → List M} {put : State → List M → State}
    {Q : Params → M → Prop} (hb : BankOf get put Q) {n : Nat} {s t : State} (h : modelRender k (get s) put n s = .next t) :
    ∃ ys, t.out = outBlock 0 ys s.out := by
  rcases modelRender_cases h with ⟨-, rfl⟩ | ⟨m, -, -, rfl⟩ | ⟨m, w, e, -, -, -, rfl⟩ | ⟨m, w, ys, m', fx, -, -, -, rfl⟩
  · exact ⟨[], rfl⟩
  · exact ⟨[], rfl⟩
  · exact ⟨[], rfl⟩
  · obtain ⟨us, ms, hput⟩ := hb.writes (s.start.warn w) ((get s).set n m')
    rw [hput]
    exact ⟨ys, rfl⟩

/-- A command writes nothing to output memory, or a block at its start. -/
theorem exec_out {i : Instr} {s t : State} (h : exec i s = .next t) : ∃ ys, t.out = outBlock 0 ys s.out := by
  obtain ⟨-, -, hout, -⟩ := onlyTheListedCommandsWriteResults i s t h
  cases i with
  | barRender n => exact barBank.modelRender_out h
  | clarRender n => exact clarBank.modelRender_out h
  | fluteRender n => exact fluteBank.modelRender_out h
  | bowedRender n => exact bowedBank.modelRender_out h
  | brassRender n => exact brassBank.modelRender_out h
  | _ => exact ⟨[], hout rfl⟩

theorem exec_memoryWf {i : Instr} {s t : State} (h : exec i s = .next t) (hs : s.MemoryWf) : t.MemoryWf := by
  obtain ⟨hout, htables⟩ := hs
  obtain ⟨ys, hys⟩ := exec_out h
  exact ⟨hys ▸ outBlock_wf 0 ys hout, (exec_runs h).effect.tables ▸ htables⟩

theorem State.hostWrite_memoryWf (s : State) (rest : List HostWrite) (hw : HostWrite) (hs : s.MemoryWf) :
    (State.hostWrite { s with pending := rest } hw).MemoryWf := by
  cases hw with
  | table id ws => exact ⟨hs.1, Tables.put_wf s.params.fmt id ws hs.2⟩
  | _ => exact hs

/-- Settles O10: `Tables.put_wf` for the host's tables, `outBlock_wf` for the block of a RENDER. -/
theorem stepKeepsHostMemoryCanonical : Obligations.StepKeepsHostMemoryCanonical := fun _ _ hs h =>
  step_preserves State.hostWrite_memoryWf (fun _ => id) (fun _ _ _ => exec_memoryWf) h hs

end Sys2Proof.Machine

/-! PROOFS. 30_encoding.md: the decoder and the encoder agree (R101-R109, R112), and an illegal word is abandoned (R107, R108). -/

namespace Sys2Proof

/-! ### The fields of a word (R101) -/

/-- A word is its four fields. -/
theorem word_toNat (w : U32) : w.toNat = wordCls w * 2 ^ 26 + wordFn w * 2 ^ 22 + wordInst w * 2 ^ 16 + wordZero w := by
  have := w.isLt
  unfold wordCls wordFn wordInst wordZero
  omega

theorem wordInst_lt (w : U32) : wordInst w < 64 := Nat.mod_lt _ (by decide)

theorem extractLsb'_cls (w : U32) : (w.extractLsb' 26 6).toNat = wordCls w := by
  simp [wordCls, Nat.shiftRight_eq_div_pow]

theorem extractLsb'_fn (w : U32) : (w.extractLsb' 22 4).toNat = wordFn w := by
  simp [wordFn, Nat.shiftRight_eq_div_pow]

theorem extractLsb'_inst (w : U32) : (w.extractLsb' 16 6).toNat = wordInst w := by
  simp [wordInst, Nat.shiftRight_eq_div_pow]

theorem extractLsb'_eq_zero_iff (w : U32) : w.extractLsb' 0 16 = 0#16 ↔ wordZero w = 0 := by
  simp [wordZero, ← BitVec.toNat_inj]

/-! ### The fields of a command (R102-R104) -/

theorem Instr.cls_lt (i : Instr) : i.cls < 64 := by cases i <;> simp [cls]

theorem Instr.fn_lt (i : Instr) : i.fn < 16 := by cases i <;> simp [fn]

/-- SYS commands have INST 0 (R104). -/
theorem Instr.inst_of_cls_eq_zero {i : Instr} : i.cls = 0 → i.inst = 0 := by cases i <;> simp [cls, inst]

/-- The fields of a command fit side by side in a word. -/
theorem encode_toNat {i : Instr} (h : i.inst < 64) : (encode i).toNat = i.cls * 2 ^ 26 + i.fn * 2 ^ 22 + i.inst * 2 ^ 16 := by
  have := i.cls_lt
  have := i.fn_lt
  unfold encode
  rw [BitVec.toNat_ofNat]
  omega

/-- The fields of the word of a command are the command's. -/
theorem encode_fields {i : Instr} (h : i.inst < 64) :
    wordZero (encode i) = 0 ∧ i.cls = wordCls (encode i) ∧ i.fn = wordFn (encode i) ∧ i.inst = wordInst (encode i) := by
  have := i.cls_lt
  have := i.fn_lt
  unfold wordZero wordCls wordFn wordInst
  rw [encode_toNat h]
  omega

/-! ### The table of R103 -/

/-- The table lists every command under its own CLASS and FUNC. -/
theorem tableEntry_self (i : Instr) : tableEntry i.cls i.fn i.inst = some i := by cases i <;> rfl

/-- What the table lists has the CLASS and FUNC it is listed under, and the INST asked for unless it is a SYS command. -/
theorem tableEntry_fields {c f n : Nat} {i : Instr} (h : tableEntry c f n = some i) :
    i.cls = c ∧ i.fn = f ∧ (c ≠ 0 → i.inst = n) := by
  unfold tableEntry at h
  split at h <;> cases h <;> simp [Instr.cls, Instr.fn, Instr.inst]

/-- What the decoder accepts: the word of ZERO 0 whose other fields are the command's. -/
theorem decode_eq_ok_iff {w : U32} {i : Instr} :
    decode w = .ok i ↔ wordZero w = 0 ∧ i.cls = wordCls w ∧ i.fn = wordFn w ∧ i.inst = wordInst w := by
  constructor
  · intro h
    unfold decode at h
    split at h
    · cases h
    next hzero =>
    split at h
    · cases h
    next hentry =>
    split at h
    · cases h
    next hsys =>
    cases h
    obtain ⟨hcls, hfn, hinst⟩ := tableEntry_fields hentry
    refine ⟨not_not.mp hzero, hcls, hfn, ?_⟩
    by_cases h0 : wordCls w = 0
    · rw [Instr.inst_of_cls_eq_zero (hcls.trans h0), not_not.mp fun hi => hsys ⟨h0, hi⟩]
    · exact hinst h0
  · rintro ⟨hzero, hcls, hfn, hinst⟩
    have hsys : ¬ (i.cls = 0 ∧ i.inst ≠ 0) := fun ⟨h0, hi⟩ => hi (Instr.inst_of_cls_eq_zero h0)
    unfold decode
    rw [← hcls, ← hfn, ← hinst, tableEntry_self]
    simp [hzero, hsys]

/-- Settles O1: the fields of the encoding are the command's, and the decoder asks no more. -/
theorem decodeEncodeRoundTrip : Obligations.DecodeEncodeRoundTrip := fun _ h =>
  decode_eq_ok_iff.mpr (encode_fields (of_decide_eq_true h))

/-- Settles O2: word and encoding have the same fields. -/
theorem decodedWordIsEncoded : Obligations.DecodedWordIsEncoded := by
  intro w i h
  obtain ⟨hzero, hcls, hfn, hinst⟩ := decode_eq_ok_iff.mp h
  have hfits : i.inst < 64 := hinst ▸ wordInst_lt w
  refine ⟨BitVec.eq_of_toNat_eq ?_, decide_eq_true hfits⟩
  rw [encode_toNat hfits, word_toNat w, hzero, hcls, hfn, hinst, Nat.add_zero]

/-- Settles O3: each word is by evaluation the encoding of its command, which the round trip decodes. -/
theorem writtenOutWords : Obligations.WrittenOutWords :=
  ⟨decodeEncodeRoundTrip (.biqTick 2) rfl, decodeEncodeRoundTrip (.dlnCfg 0) rfl, decodeEncodeRoundTrip (.dlnTick 0) rfl,
    decodeEncodeRoundTrip (.adsrKeyon 1) rfl, decodeEncodeRoundTrip (.clarRender 0) rfl, decodeEncodeRoundTrip .sysSetctx rfl,
    decodeEncodeRoundTrip .sysNop rfl, rfl, rfl, rfl, rfl, rfl, rfl, rfl⟩

namespace Machine

/-! ### Which words decode (R107, R108) -/

theorem fn_lt_funcCount (i : Instr) : i.fn < funcCount i.cls := by cases i <;> simp [Instr.fn, Instr.cls, funcCount]

/-- The FUNC values of a class are numbered from 0 without a gap. -/
theorem exists_tableEntry {c f : Nat} (h : f < funcCount c) (n : Nat) : ∃ i, tableEntry c f n = some i := by
  unfold funcCount at h
  split at h <;> interval_cases f <;> exact ⟨_, rfl⟩

/-- R107 before its INST < N_C test, by the fields of the word. -/
theorem decodes_iff {w : U32} :
    (∃ i, decode w = .ok i) ↔
      wordZero w = 0 ∧ wordFn w < funcCount (wordCls w) ∧ (wordCls w = 0 → wordInst w = 0) := by
  constructor
  · rintro ⟨i, h⟩
    obtain ⟨hzero, hcls, hfn, hinst⟩ := decode_eq_ok_iff.mp h
    rw [← hcls, ← hfn, ← hinst]
    exact ⟨hzero, fn_lt_funcCount i, Instr.inst_of_cls_eq_zero⟩
  · rintro ⟨hzero, hfunc, hsys⟩
    obtain ⟨i, hi⟩ := exists_tableEntry hfunc (wordInst w)
    obtain ⟨hcls, hfn, hinst⟩ := tableEntry_fields hi
    refine ⟨i, decode_eq_ok_iff.mpr ⟨hzero, hcls, hfn, ?_⟩⟩
    by_cases h0 : wordCls w = 0
    · rw [Instr.inst_of_cls_eq_zero (hcls.trans h0), hsys h0]
    · exact hinst h0

theorem issue_of_not_decodes {w : U32} (h : ¬ ∃ i, decode w = .ok i) (s : State) : issue w s = .next s.illegal := by
  unfold issue
  split
  · rfl
  · next i hi => exact absurd ⟨i, hi⟩ h

/-! ### A number past the end of its bank (R107) -/

section
variable {α : Type} {bank : List α} {put : State → List α → State} {n : Nat} {s : State}

theorem unitRead_absent (h : bank.length ≤ n) {out : α → Flt} : unitRead bank n s out = .next s.illegal := by
  unfold unitRead
  rw [List.getElem?_eq_none h]

theorem unitSet_absent (h : bank.length ≤ n) {op : α → Res α} : unitSet bank put n s op = .next s.illegal := by
  unfold unitSet
  rw [List.getElem?_eq_none h]

theorem unitTick_absent (h : bank.length ≤ n) {op : α → Res (Flt × α)} : unitTick bank put n s op = .next s.illegal := by
  unfold unitTick
  rw [List.getElem?_eq_none h]

/-- A setter that refuses nothing. -/
theorem update_absent (h : bank.length ≤ n) {g : α → α} :
    unitSet bank put n s (fun u => .ok 0 (g u)) = .next s.illegal := unitSet_absent h

/-- A tick that refuses nothing. -/
theorem sample_absent (h : bank.length ≤ n) {g : α → Flt × α} :
    unitTick bank put n s (fun u => .ok 0 (g u)) = .next s.illegal := unitTick_absent h

theorem unitDraw_absent (h : bank.length ≤ n) {op : α → Fx → Res (Flt × α × Fx)} :
    unitDraw bank put n s op = .next s.illegal := by
  unfold unitDraw
  rw [List.getElem?_eq_none h]

theorem modelInit_absent (h : bank.length ≤ n) {k : ModelKit α} : modelInit k bank put n s = .next s.illegal := by
  unfold modelInit
  rw [List.getElem?_eq_none h]

theorem modelRender_absent (h : bank.length ≤ n) {k : ModelKit α} : modelRender k bank put n s = .next s.illegal := by
  unfold modelRender
  rw [List.getElem?_eq_none h]

end

/-- A command of a unit or a model the block does not have, shape by shape. -/
theorem exec_absent {i : Instr} {s : State} (hcls : i.cls ≠ 0) (h : s.instances i.cls ≤ i.inst) :
    exec i s = .next s.illegal := by
  cases i with
  | sysNop | sysClrstat | sysSreset | sysSetctx => exact absurd rfl hcls
  | dlnLast n | dlaLast n | dllLast n | biqLast n | opoleLast n | ozeroLast n | dcbLast n | adsrLast n | envLast n
  | bowLookup n | reedLookup n | jetLookup n | noiseLast n | vibLast n => exact unitRead_absent h
  | dlnCfg n | dlnSetdel n | dlaCfg n | dlaSetdel n | dllCfg n | dllSetdel n | biqSetfr n
  | adsrSettimes n | adsrSetatk n | adsrSetrel n | envSetrate n | vibSettab n | vibSetfreq n
  | barSetctl n | barRelease n | clarSetctl n | clarRelease n | fluteSetctl n | fluteRelease n
  | bowedSetctl n | bowedRelease n | brassSetctl n | brassRelease n => exact unitSet_absent h
  | biqSetegz n | biqSetgain n | biqClear n | opoleSetgain n | opoleSetcoef n | ozeroSetgain n | ozeroSetcoef n
  | adsrSettarget n | adsrKeyon n | adsrKeyoff n | envSettarget n | envKeyon n | envKeyoff n
  | bowSetslope n | reedSetoffset n | reedSetslope n => exact update_absent h
  | dlnTick n | dlaTick n | dllTick n => exact unitTick_absent h
  | biqTick n | opoleTick n | ozeroTick n | dcbTick n | adsrTick n | envTick n => exact sample_absent h
  | noiseTick n => exact unitDraw_absent h (op := fun u fx => .ok 0 (u.tick s.params.fmt fx))
  | vibTick n => exact unitDraw_absent h
  | barInit n | clarInit n | fluteInit n | bowedInit n | brassInit n => exact modelInit_absent h
  | barRender n | clarRender n | fluteRender n | bowedRender n | brassRender n => exact modelRender_absent h

/-- Settles O4: `decodes_iff` gives the first three clauses of R108, and `exec_absent` the fourth. -/
theorem illegalWordsRaiseIllegal : Obligations.IllegalWordsRaiseIllegal := by
  intro s w
  simp only [extractLsb'_cls, extractLsb'_fn, extractLsb'_inst, ne_eq, extractLsb'_eq_zero_iff]
  by_cases hdec : ∃ i, decode w = .ok i
  · obtain ⟨hzero, hfunc, hsys⟩ := decodes_iff.mp hdec
    obtain ⟨i, hi⟩ := hdec
    obtain ⟨-, hcls, hfn, hinst⟩ := decode_eq_ok_iff.mp hi
    refine ⟨fun hill => ?_, fun _ => ⟨i, hcls, hfn, hinst, issue_of_decode hi s⟩⟩
    have habsent : wordCls w ≠ 0 ∧ s.instances (wordCls w) ≤ wordInst w := by
      rcases hill with h | h | ⟨h0, h⟩ | h
      · exact absurd hzero h
      · exact absurd hfunc (Nat.not_lt.mpr h)
      · exact absurd (hsys h0) h
      · exact h
    rw [← hcls, ← hinst] at habsent
    exact (issue_of_decode hi s).trans (exec_absent habsent.1 habsent.2)
  · refine ⟨fun _ => issue_of_not_decodes hdec s, fun hleg => absurd (decodes_iff.mpr ?_) hdec⟩
    simp only [not_or, not_and, not_not, not_le] at hleg
    obtain ⟨hzero, hfunc, hsys, -⟩ := hleg
    exact ⟨hzero, hfunc, hsys⟩

end Machine
end Sys2Proof

/-! PROOFS. 40_delay_lines.md: the commands of the three delay lines (R130-R134, R141-R144, R151-R154), and the delay guarantee of the
integer line (R135). -/

namespace Sys2Proof

/-- `FLT(0)` is +0. -/
theorem Fmt.fromNat_zero (f : Fmt) : f.fromNat 0 = 0#64 := by
  rw [fromNat, lit, Nat.cast_zero, zero_mul, ofScaled_zero]

namespace Machine

/-! ### A command of a unit the block has -/

section
variable {α : Type} {bank : List α} {put : State → List α → State} {n : Nat} {s : State} {u : α} {w : U32}

theorem unitRead_present (h : bank[n]? = some u) (out : α → Flt) :
    unitRead bank n s out = .next { s.after 0#32 with y := out u } := by
  unfold unitRead
  rw [h, State.start_eq_after]
  rfl

theorem unitSet_unsized {op : α → Res α} (h : bank[n]? = some u) (ho : op u = .raise 0 errUnsized) :
    unitSet bank put n s op = .next (s.after 0x8008#32) := by
  unfold unitSet
  simp only [h, ho, State.abandon_unsized]

theorem unitSet_refused {op : α → Res α} (h : bank[n]? = some u) (ho : op u = .raise 0 errOperand) :
    unitSet bank put n s op = .next (s.after 0x8080#32) := by
  unfold unitSet
  simp only [h, ho, State.abandon_operand]

theorem unitSet_ok {op : α → Res α} {u' : α} (h : bank[n]? = some u) (ho : op u = .ok w u') :
    unitSet bank put n s op = .next (put (s.after w) (bank.set n u')) := by
  unfold unitSet
  simp only [h, ho, State.start_warn_eq_after]

theorem unitTick_unsized {op : α → Res (Flt × α)} (h : bank[n]? = some u) (ho : op u = .raise 0 errUnsized) :
    unitTick bank put n s op = .next (s.after 0x8008#32) := by
  unfold unitTick
  simp only [h, ho, State.abandon_unsized]

theorem unitTick_ok {op : α → Res (Flt × α)} {r : Flt × α} (h : bank[n]? = some u) (ho : op u = .ok w r) :
    unitTick bank put n s op = .next ((put (s.after w) (bank.set n r.2)).setY r.1) := by
  unfold unitTick
  simp only [h, ho, State.start_warn_eq_after]

end

/-! ### The rules that need a sized line (R130) -/

theorem require_sized {α : Type} {cap : Nat} (h : 0 < cap) (r : Res α) :
    Res.require (decide (0 < cap)) errUnsized r = r := by
  simp [Res.require, h]

theorem require_unsized {α : Type} {cap : Nat} (h : cap = 0) (r : Res α) :
    Res.require (decide (0 < cap)) errUnsized r = .raise 0 errUnsized := by
  simp [Res.require, h]

section
variable {α β : Type} {f : Fmt} {lag : Flt} {cap lo : Nat} {bound : Nat → β} {keep : Flt → β} {g : β → α}

/-- A lag that is no number is refused (R132, R142, R152). -/
theorem setLag_nan (hc : 0 < cap) (hn : f.isNaN lag = true) :
    Res.require (decide (0 < cap)) errUnsized ((lagOperand f lag cap lo bound keep).map g) = .raise 0 errOperand := by
  rw [require_sized hc]
  rcases lagOperand_cases f lag cap lo bound keep with ⟨-, h⟩ | ⟨h, -⟩ | ⟨h, -⟩ | ⟨h, -⟩
  · rw [h, Res.map_raise]
  all_goals simp [hn] at h

/-- A lag that is a number is clamped from above, then from below, with WARN_CLAMP where it was (R132, R142, R152). -/
theorem setLag_number (hc : 0 < cap) (hn : f.isNaN lag = false) :
    Res.require (decide (0 < cap)) errUnsized ((lagOperand f lag cap lo bound keep).map g)
      = .ok (if f.gtNat lag (cap - 1) || f.lt lag (f.fromNat lo) then 0x1#32 else 0#32)
          (g (if f.gtNat lag (cap - 1) then bound (max (cap - 1) lo)
            else if f.lt lag (f.fromNat lo) then bound lo else keep lag)) := by
  rw [require_sized hc]
  rcases lagOperand_cases f lag cap lo bound keep with ⟨h, -⟩ | ⟨-, hhigh, h⟩ | ⟨-, hhigh, hlow, h⟩ | ⟨-, hhigh, hlow, h⟩
  · simp [hn] at h
  · simp [h, hhigh]
  · simp [h, hhigh, hlow]
  · simp [h, hhigh, hlow]

end

/-- The indices of a sized line are below its capacity. -/
theorem LineWf.indices {mc cap w r : Nat} {buf : List Flt} (h : LineWf mc cap w r buf) (hc : 0 < cap) : w < cap ∧ r < cap := by
  obtain ⟨-, -, -, hidx⟩ := h
  exact hidx hc

/-- A read index below the capacity finds its word, after a write as before it (R133, R143, R153). -/
theorem LineWf.read {mc cap w r i : Nat} {buf : List Flt} (h : LineWf mc cap w r buf) (x : Flt) (hi : i < cap) :
    (buf.set w x)[i]? = some ((buf.set w x).getD i Flt.zero) := by
  obtain ⟨hlen, -⟩ := h
  have hi : i < (buf.set w x).length := by rwa [List.length_set, hlen]
  rw [List.getD_eq_getElem _ _ hi, List.getElem?_eq_getElem hi]

/-! ### The integer line -/

section
variable {n : Nat} {s : State} {u : Dln} (hu : s.units.dln[n]? = some u)
include hu

theorem exec_dlnSetdel_unsized (hc : u.cap = 0) : exec (.dlnSetdel n) s = .next (s.after 0x8008#32) :=
  unitSet_unsized hu (require_unsized hc _)

theorem exec_dlnSetdel_nan (hc : 0 < u.cap) (hn : s.params.fmt.isNaN s.a0 = true) :
    exec (.dlnSetdel n) s = .next (s.after 0x8080#32) :=
  unitSet_refused hu (setLag_nan hc hn)

theorem exec_dlnSetdel_number (hc : 0 < u.cap) (hn : s.params.fmt.isNaN s.a0 = false) :
    let f := s.params.fmt
    let high := f.gtNat s.a0 (u.cap - 1)
    let low := f.lt s.a0 0#64
    let lag : Int := if high then (u.cap - 1 : Nat) else if low then 0 else f.trunc s.a0
    exec (.dlnSetdel n) s =
      .next (State.putDln (s.after (if high || low then 0x1#32 else 0#32))
        (s.units.dln.set n { u with r := backFrom u.w lag u.cap })) := by
  have hlag := setLag_number (f := s.params.fmt) (lo := 0) (bound := Int.ofNat) (keep := s.params.fmt.trunc)
    (g := fun d => { u with r := backFrom u.w d u.cap }) hc hn
  rw [Fmt.fromNat_zero, Nat.max_zero] at hlag
  exact unitSet_ok hu hlag

theorem exec_dlnTick_unsized (hc : u.cap = 0) : exec (.dlnTick n) s = .next (s.after 0x8008#32) :=
  unitTick_unsized hu (require_unsized hc _)

theorem exec_dlnTick_sized (hc : 0 < u.cap) :
    exec (.dlnTick n) s =
      .next ((State.putDln (s.after 0#32) (s.units.dln.set n (u.tick s.a0).2)).setY (u.tick s.a0).1) :=
  unitTick_ok hu (require_sized hc _)

theorem exec_dlnLast : exec (.dlnLast n) s = .next { s.after 0#32 with y := u.last } := unitRead_present hu Dln.last

end

/-! ### The all-pass line -/

section
variable {n : Nat} {s : State} {u : Dla} (hu : s.units.dla[n]? = some u)
include hu

theorem exec_dlaSetdel_unsized (hc : u.cap = 0) : exec (.dlaSetdel n) s = .next (s.after 0x8008#32) :=
  unitSet_unsized hu (require_unsized hc _)

theorem exec_dlaSetdel_nan (hc : 0 < u.cap) (hn : s.params.fmt.isNaN s.a0 = true) :
    exec (.dlaSetdel n) s = .next (s.after 0x8080#32) :=
  unitSet_refused hu (setLag_nan hc hn)

theorem exec_dlaSetdel_number (hc : 0 < u.cap) (hn : s.params.fmt.isNaN s.a0 = false) :
    let f := s.params.fmt
    let high := f.gtNat s.a0 (u.cap - 1)
    let low := f.lt s.a0 (f.lit 2 1)
    let lag := if high then f.fromNatDown (Nat.max (u.cap - 1) 2) else if low then f.fromNatDown 2 else s.a0
    exec (.dlaSetdel n) s =
      .next (State.putDla (s.after (if high || low then 0x1#32 else 0#32)) (s.units.dla.set n (u.place f lag))) :=
  unitSet_ok hu (setLag_number hc hn)

theorem exec_dlaTick_unsized (hc : u.cap = 0) : exec (.dlaTick n) s = .next (s.after 0x8008#32) :=
  unitTick_unsized hu (require_unsized hc _)

theorem exec_dlaTick_sized (hc : 0 < u.cap) :
    exec (.dlaTick n) s =
      .next ((State.putDla (s.after 0#32) (s.units.dla.set n (u.tick s.params.fmt s.a0).2)).setY (u.tick s.params.fmt s.a0).1) :=
  unitTick_ok hu (require_sized hc _)

theorem exec_dlaLast : exec (.dlaLast n) s = .next { s.after 0#32 with y := u.last } := unitRead_present hu Dla.last

end

/-! ### The linear line -/

section
variable {n : Nat} {s : State} {u : Dll} (hu : s.units.dll[n]? = some u)
include hu

theorem exec_dllSetdel_unsized (hc : u.cap = 0) : exec (.dllSetdel n) s = .next (s.after 0x8008#32) :=
  unitSet_unsized hu (require_unsized hc _)

theorem exec_dllSetdel_nan (hc : 0 < u.cap) (hn : s.params.fmt.isNaN s.a0 = true) :
    exec (.dllSetdel n) s = .next (s.after 0x8080#32) :=
  unitSet_refused hu (setLag_nan hc hn)

theorem exec_dllSetdel_number (hc : 0 < u.cap) (hn : s.params.fmt.isNaN s.a0 = false) :
    let f := s.params.fmt
    let high := f.gtNat s.a0 (u.cap - 1)
    let low := f.lt s.a0 (f.lit 0 1)
    let lag := if high then f.fromNatDown (u.cap - 1) else if low then f.fromNatDown 0 else s.a0
    exec (.dllSetdel n) s =
      .next (State.putDll (s.after (if high || low then 0x1#32 else 0#32)) (s.units.dll.set n (u.place f lag))) := by
  have hlag := setLag_number (f := s.params.fmt) (lo := 0) (bound := s.params.fmt.fromNatDown) (keep := id)
    (g := u.place s.params.fmt) hc hn
  rw [Nat.max_zero] at hlag
  exact unitSet_ok hu hlag

theorem exec_dllTick_unsized (hc : u.cap = 0) : exec (.dllTick n) s = .next (s.after 0x8008#32) :=
  unitTick_unsized hu (require_unsized hc _)

theorem exec_dllTick_sized (hc : 0 < u.cap) :
    exec (.dllTick n) s =
      .next ((State.putDll (s.after 0#32) (s.units.dll.set n (u.tick s.params.fmt s.a0).2)).setY (u.tick s.params.fmt s.a0).1) :=
  unitTick_ok hu (require_sized hc _)

theorem exec_dllLast : exec (.dllLast n) s = .next { s.after 0#32 with y := u.last } := unitRead_present hu Dll.last

end

/-! ### Placing the read index (R142, R152) -/

/-- `SetDelayAP(U, L)` by the distance of the read position from the index above it: one below 0.1 moves the index up by one. -/
theorem Dla.place_eq (f : Fmt) (l : Flt) (u : Dla) :
    u.place f l =
      let p := f.wrap (f.add (f.sub (f.fromNat u.w) l) (f.lit 2 1)) u.cap
      let r := (f.floor p).toNat
      let a := f.sub (f.add f.one (f.fromNat r)) p
      if f.lt a (f.lit 1 10) then
        { u with
          r := (r + 1) % u.cap, alpha := f.add a f.one
          coeff := f.div (f.sub f.one (f.add a f.one)) (f.add f.one (f.add a f.one)) }
      else { u with r := r, alpha := a, coeff := f.div (f.sub f.one a) (f.add f.one a) } := by
  unfold Dla.place
  dsimp only
  split <;> rfl

/-! ### The requests of a buffer (R131, R141, R151) -/

theorem Dln.cfg_refused {p : Params} {q : Nat} (h : p.maxCap < q + 1) : Dln.cfg p q = .raise 0 errOperand := if_pos h

theorem Dln.cfg_ok {p : Params} {q : Nat} (h : q + 1 ≤ p.maxCap) :
    Dln.cfg p q = .ok 0 ⟨q + 1, 0, backFrom 0 q (q + 1), Flt.zero, List.replicate (q + 1) Flt.zero⟩ := if_neg (Nat.not_lt.mpr h)

theorem Dla.cfg_refused {p : Params} {q : Nat} (u : Dla) (h : q < 2 ∨ p.maxCap < q + 1) : u.cfg p q = .raise 0 errOperand :=
  if_pos h

theorem Dla.cfg_ok {p : Params} {q : Nat} (u : Dla) (hlow : 2 ≤ q) (hhigh : q + 1 ≤ p.maxCap) :
    u.cfg p q = .ok 0 (Dla.place p.fmt (p.fmt.fromNatDown q)
      ⟨q + 1, 0, u.r, u.alpha, u.coeff, Flt.zero, Flt.zero, List.replicate (q + 1) Flt.zero⟩) := if_neg (by omega)

theorem Dll.cfg_refused {p : Params} {q : Nat} (u : Dll) (h : q < 1 ∨ p.maxCap < q + 1) : u.cfg p q = .raise 0 errOperand :=
  if_pos h

theorem Dll.cfg_ok {p : Params} {q : Nat} (u : Dll) (hlow : 1 ≤ q) (hhigh : q + 1 ≤ p.maxCap) :
    u.cfg p q = .ok 0 (Dll.place p.fmt (p.fmt.fromNatDown q)
      ⟨q + 1, 0, u.r, u.alpha, Flt.zero, List.replicate (q + 1) Flt.zero⟩) := if_neg (by omega)

/-! ### The delay guarantee (R135) -/

/-- The delay of an integer line: how far the read index is behind the write index, modulo the capacity. -/
def Dln.delay (u : Dln) : Nat := backFrom u.w u.r u.cap

/-- The outputs of a run of ticks of one integer line. -/
def Dln.outputs : List Flt → Dln → List Flt
  | [], _ => []
  | x :: xs, u => (u.tick x).1 :: Dln.outputs xs (u.tick x).2

/-- A run of the command `dln.tick` on a sized line answers the outputs of that line. -/
theorem ticks_dlnTick {n : Nat} (xs : List Flt) {s : State} {u : Dln} (hu : s.units.dln[n]? = some u) (hc : 0 < u.cap) :
    State.ticks (.dlnTick n) xs s = u.outputs xs := by
  induction xs generalizing s u with
  | nil => rfl
  | cons x xs ih =>
    have hlt : n < s.units.dln.length := (List.getElem?_eq_some_iff.mp hu).1
    simp only [State.ticks, exec_dlnTick_sized (s := { s with a0 := x }) hu hc, Dln.outputs]
    exact congrArg _ (ih (List.getElem?_set_self hlt) hc)

section
variable {u : Dln} {mc : Nat}

theorem Dln.w_lt_length (h : u.Ready mc) : u.w < u.buf.length := by
  obtain ⟨hwf, hc⟩ := h
  exact (hwf.indices hc).1.trans_eq hwf.1.symm

theorem Dln.delay_lt (hc : 0 < u.cap) : u.delay < u.cap := backFrom_lt u.w u.r hc

/-- The read index moved on by the delay is the write index. -/
theorem Dln.add_delay_mod (h : u.Ready mc) : (u.r + u.delay) % u.cap = u.w := by
  obtain ⟨hwf, hc⟩ := h
  obtain ⟨hw, hr⟩ := hwf.indices hc
  have hd : (u.delay : Int) = ((u.w : Int) - u.r) % u.cap := Int.toNat_of_nonneg (Int.emod_nonneg _ (by omega))
  have hmod : ((u.r : Int) + u.delay) % u.cap = u.w := by
    rw [hd, Int.add_emod_emod, add_sub_cancel, Int.emod_eq_of_lt (by omega) (by omega)]
  exact_mod_cast hmod

/-- The delay is the only distance below the capacity from the read index to the write index. -/
theorem Dln.delay_unique (h : u.Ready mc) {k : Nat} (hk : k < u.cap) (hw : (u.r + k) % u.cap = u.w) : k = u.delay := by
  have hmod : u.r + k ≡ u.r + u.delay [MOD u.cap] := hw.trans (u.add_delay_mod h).symm
  exact Nat.ModEq.eq_of_lt_of_lt (Nat.ModEq.add_left_cancel' u.r hmod) hk (u.delay_lt h.2)

/-- Both indices move by one, so a tick keeps the delay. -/
theorem Dln.tick_delay (x : Flt) (h : u.Ready mc) : (u.tick x).2.delay = u.delay := by
  refine (Dln.delay_unique (Dln.tick_ready x h) (u.delay_lt h.2) ?_).symm
  change ((u.r + 1) % u.cap + u.delay) % u.cap = (u.w + 1) % u.cap
  rw [Nat.mod_add_mod, Nat.add_right_comm, ← Nat.mod_add_mod, u.add_delay_mod h]

/-- With delay 0 a tick reads the word it just wrote. -/
theorem Dln.tick_of_delay_zero (x : Flt) (h : u.Ready mc) (hd : u.delay = 0) : (u.tick x).1 = x := by
  have hrw : u.r = u.w := by
    rw [← u.add_delay_mod h, hd, Nat.add_zero, Nat.mod_eq_of_lt (h.1.indices h.2).2]
  simp [Dln.tick, hrw, u.w_lt_length h]

/-- A tick leaves a word fewer than `delay` places ahead of the read index as it is. -/
theorem Dln.tick_buf_ahead (x : Flt) {k : Nat} (h : u.Ready mc) (hk : k < u.delay) :
    (u.tick x).2.buf[(u.r + k) % u.cap]? = u.buf[(u.r + k) % u.cap]? := by
  refine List.getElem?_set_ne fun hw => Nat.ne_of_lt hk ?_
  exact Dln.delay_unique h (hk.trans (u.delay_lt h.2)) hw.symm

/-- A tick brings every place one nearer to the read index. -/
theorem Dln.tick_place (x : Flt) (u : Dln) (k : Nat) : ((u.tick x).2.r + k) % (u.tick x).2.cap = (u.r + (k + 1)) % u.cap := by
  change ((u.r + 1) % u.cap + k) % u.cap = _
  rw [Nat.mod_add_mod, Nat.add_assoc, Nat.add_comm 1]

/-- A word `k` places ahead of the read index, fewer than `delay`, is the output of tick number `k`. -/
theorem Dln.outputs_of_ahead {k : Nat} {xs : List Flt} {v : Flt} (h : u.Ready mc) (hk : k < u.delay)
    (hv : u.buf[(u.r + k) % u.cap]? = some v) (hx : k < xs.length) : (u.outputs xs)[k]? = some v := by
  induction k generalizing u xs with
  | zero =>
    obtain ⟨x, xs, rfl⟩ := List.exists_cons_of_length_pos hx
    have hkept := (Dln.tick_buf_ahead x h hk).trans hv
    rw [Nat.add_zero, Nat.mod_eq_of_lt (h.1.indices h.2).2] at hkept
    have hread : (u.tick x).1 = v := by
      change (u.tick x).2.buf.getD u.r Flt.zero = v
      rw [List.getD_eq_getElem?_getD, hkept, Option.getD_some]
    exact congrArg some hread
  | succ k ih =>
    obtain ⟨x, xs, rfl⟩ := List.exists_cons_of_length_pos (Nat.zero_lt_of_lt hx)
    have hkept := (Dln.tick_buf_ahead x h hk).trans hv
    rw [← Dln.tick_place x] at hkept
    have hahead : k < (u.tick x).2.delay := by
      rw [Dln.tick_delay x h]
      exact Nat.lt_of_succ_lt hk
    exact ih (Dln.tick_ready x h) hahead hkept (Nat.lt_of_succ_lt_succ hx)

/-- The first word of a run is its output after `delay` ticks. -/
theorem Dln.outputs_delay (x : Flt) {xs : List Flt} (h : u.Ready mc) (hx : u.delay < xs.length + 1) :
    (u.outputs (x :: xs))[u.delay]? = some x := by
  rcases hd : u.delay with _ | k
  · exact congrArg some (Dln.tick_of_delay_zero x h hd)
  · have hplace : ((u.tick x).2.r + k) % (u.tick x).2.cap = u.w := by
      rw [Dln.tick_place, ← hd, u.add_delay_mod h]
    refine Dln.outputs_of_ahead (u := (u.tick x).2) (Dln.tick_ready x h) ?_ ?_ (by omega)
    · rw [Dln.tick_delay x h, hd]
      exact Nat.lt_succ_self k
    · rw [hplace]
      exact List.getElem?_set_self (u.w_lt_length h)

/-- Word number `t` of a run is its output number `t + delay`. -/
theorem Dln.outputs_add_delay {xs : List Flt} {t : Nat} (h : u.Ready mc) (ht : t + u.delay < xs.length) :
    (u.outputs xs)[t + u.delay]? = xs[t]? := by
  induction t generalizing u xs with
  | zero =>
    obtain ⟨x, xs, rfl⟩ := List.exists_cons_of_length_pos (Nat.zero_lt_of_lt ht)
    rw [Nat.zero_add] at ht ⊢
    exact Dln.outputs_delay x h ht
  | succ t ih =>
    obtain ⟨x, xs, rfl⟩ := List.exists_cons_of_length_pos (Nat.zero_lt_of_lt ht)
    have hd := Dln.tick_delay x h
    rw [Nat.add_right_comm] at ht ⊢
    have hrest := ih (Dln.tick_ready x h) (by rw [hd]; exact Nat.lt_of_succ_lt_succ ht)
    rwa [hd] at hrest

end

/-- Settles O25: a run of the command is a run of the line, which answers each word after `Dln.delay` ticks. -/
theorem dlnDelayGuarantee : Obligations.DlnDelayGuarantee := by
  intro s n u xs t hu hwf hc d ht
  rw [ticks_dlnTick xs hu hc]
  exact Dln.outputs_add_delay ⟨hwf, hc⟩ ht

/-- Settles O23: a lag that is a number is above its range, below it, or within. -/
theorem dlnConfigure : Obligations.DlnConfigure := by
  intro s n u hu
  refine ⟨⟨⟨rfl, rfl⟩, ⟨rfl, rfl⟩⟩, fun hq => ?_, fun hq => ?_, exec_dlnSetdel_unsized hu, fun hc => ?_⟩
  · exact unitSet_refused hu (Dln.cfg_refused hq)
  · exact unitSet_ok hu (Dln.cfg_ok hq)
  · split
    · next hn => exact exec_dlnSetdel_nan hu hc hn
    · next hn =>
      have hset := exec_dlnSetdel_number hu hc (Bool.eq_false_iff.mpr hn)
      split
      · next hhigh =>
        simp only [hhigh, Bool.true_or, if_true] at hset
        exact hset
      · next hhigh =>
        split
        · next hlow =>
          simp only [hhigh, hlow, Bool.or_true, if_true, Bool.false_eq_true, if_false] at hset
          exact hset
        · next hlow =>
          simp only [hhigh, hlow, Bool.or_self, Bool.false_eq_true, if_false] at hset
          exact hset

/-- Settles O24: the word read is at the read index, which is below the capacity. -/
theorem dlnTickAndLast : Obligations.DlnTickAndLast := by
  intro s n u hu
  refine ⟨⟨⟨rfl, rfl⟩, ⟨rfl, rfl⟩⟩, fun hwf hc => ?_, exec_dlnTick_unsized hu, exec_dlnLast hu⟩
  exact ⟨_, hwf.read s.a0 (hwf.indices hc).2, exec_dlnTick_sized hu hc⟩

/-- Settles O26: the default lag of cfg and the lag of setdel are placed by the same rule (`Dla.place_eq`). -/
theorem dlaConfigure : Obligations.DlaConfigure := by
  intro s n u hu f q put place high low lag
  have hplace (d : Dla) (l : Flt) : place d l = d.place f l := (Dla.place_eq f l d).symm
  simp only [hplace]
  refine ⟨⟨⟨rfl, rfl⟩, ⟨rfl, rfl⟩⟩, fun hq => ?_, fun hlow hhigh => ?_, exec_dlaSetdel_unsized hu, exec_dlaSetdel_nan hu,
    exec_dlaSetdel_number hu⟩
  · exact unitSet_refused hu (Dla.cfg_refused u hq)
  · exact unitSet_ok hu (Dla.cfg_ok u hlow hhigh)

/-- Settles O27: as O24, with the all-pass recursion of `Dla.tick`. -/
theorem dlaTickAndLast : Obligations.DlaTickAndLast := by
  intro s n u hu
  refine ⟨⟨⟨rfl, rfl⟩, ⟨rfl, rfl⟩⟩, fun hwf hc => ?_, exec_dlaTick_unsized hu, exec_dlaLast hu⟩
  exact ⟨_, hwf.read s.a0 (hwf.indices hc).2, exec_dlaTick_sized hu hc⟩

/-- Settles O28: as O26, with `Dll.place`. -/
theorem dllConfigure : Obligations.DllConfigure := by
  intro s n u hu
  refine ⟨⟨⟨rfl, rfl⟩, ⟨rfl, rfl⟩⟩, fun hq => ?_, fun hlow hhigh => ?_, exec_dllSetdel_unsized hu, exec_dllSetdel_nan hu,
    exec_dllSetdel_number hu⟩
  · exact unitSet_refused hu (Dll.cfg_refused u hq)
  · exact unitSet_ok hu (Dll.cfg_ok u hlow hhigh)

/-- Settles O29: as O24, with the two words that `Dll.tick` blends. -/
theorem dllTickAndLast : Obligations.DllTickAndLast := by
  intro s n u hu
  refine ⟨⟨⟨rfl, rfl⟩, ⟨rfl, rfl⟩⟩, fun hwf hc => ?_, exec_dllTick_unsized hu, exec_dllLast hu⟩
  exact ⟨_, _, hwf.read s.a0 (hwf.indices hc).2, hwf.read s.a0 (Nat.mod_lt _ hc), exec_dllTick_sized hu hc⟩

/-- Settles O30: the three lines require their capacity in the same way (`require_unsized`). -/
theorem unsizedLines : Obligations.UnsizedLines := fun _ _ =>
  ⟨fun _ hu hc => ⟨exec_dlnSetdel_unsized hu hc, exec_dlnTick_unsized hu hc, exec_dlnLast hu⟩,
    fun _ hu hc => ⟨exec_dlaSetdel_unsized hu hc, exec_dlaTick_unsized hu hc, exec_dlaLast hu⟩,
    fun _ hu hc => ⟨exec_dllSetdel_unsized hu hc, exec_dllTick_unsized hu hc, exec_dllLast hu⟩⟩

end Machine
end Sys2Proof

/-! PROOFS. 41_filters.md: the commands of the biquad (R171-R176), the one-pole (R180-R183), the one-zero (R185-R188) and the DC
blocker (R190, R191). -/

namespace Sys2Proof.Machine

/-! ### Required conditions -/

section
variable {α : Type} {cond : Bool} {err : U32} {r : Res α}

theorem Res.require_met (h : cond = true) : Res.require cond err r = r := if_pos h

theorem Res.require_unmet (h : cond = false) : Res.require cond err r = .raise 0 err := if_neg (Bool.eq_false_iff.mp h)

end

/-! ### Commands that lack state, and commands that refuse nothing -/

section
variable {α : Type} {bank : List α} {put : State → List α → State} {n : Nat} {s : State} {u : α}

theorem unitSet_unset {op : α → Res α} (h : bank[n]? = some u) (ho : op u = .raise 0 errState) :
    unitSet bank put n s op = .next (s.after 0x8040#32) := by
  unfold unitSet
  simp only [h, ho, State.abandon_state]

theorem unitSet_update {g : α → α} (h : bank[n]? = some u) :
    unitSet bank put n s (fun u => .ok 0 (g u)) = .next (put (s.after 0#32) (bank.set n (g u))) := unitSet_ok h rfl

theorem unitTick_sample {g : α → Flt × α} (h : bank[n]? = some u) :
    unitTick bank put n s (fun u => .ok 0 (g u)) = .next ((put (s.after 0#32) (bank.set n (g u).2)).setY (g u).1) :=
  unitTick_ok h rfl

end

/-! ### The poles of the biquad (R171) -/

section
variable {c : Ctx} {freq rad : Flt} (u : Biq)

theorem Biq.setfr_unset (hsr : positive c.f c.sr = false) : u.setfr c freq rad = .raise 0 errState := Res.require_unmet hsr

theorem Biq.setfr_refused (hsr : positive c.f c.sr = true) (h : c.f.isFinite freq = false ∨ c.f.isFinite rad = false) :
    u.setfr c freq rad = .raise 0 errOperand :=
  (Res.require_met hsr).trans (Res.require_unmet (Bool.and_eq_false_iff.mpr h))

theorem Biq.setfr_ok (hsr : positive c.f c.sr = true) (hfreq : c.f.isFinite freq = true) (hrad : c.f.isFinite rad = true) :
    u.setfr c freq rad =
      .ok 0
        { u with
          p0 := c.f.mul (c.f.mul (c.f.lit 2 1) rad) (c.f.cos c.p.libm (c.f.div (c.f.mul c.f.twoPi freq) c.sr))
          p1 := c.f.neg (c.f.mul rad rad) } :=
  (Res.require_met hsr).trans (Res.require_met (Bool.and_eq_true_iff.mpr ⟨hfreq, hrad⟩))

end

/-- Settles O31: biq.setfr answers by its two requirements in the order of R171; the other three refuse nothing. -/
theorem biqConfigure : Obligations.BiqConfigure := by
  intro s n u hu
  refine ⟨⟨⟨rfl, rfl⟩, ⟨rfl, rfl⟩, ⟨rfl, rfl⟩, ⟨rfl, rfl⟩⟩, fun hsr => ?_, fun hsr hbad => ?_, fun hsr hfreq hrad => ?_,
    unitSet_update hu, unitSet_update hu, unitSet_update hu⟩
  · exact unitSet_unset hu (Biq.setfr_unset u hsr)
  · exact unitSet_refused hu (Biq.setfr_refused u hsr hbad)
  · exact unitSet_ok hu (Biq.setfr_ok u hsr hfreq hrad)

/-- Settles O32: the sum and the moved history are those of `Biq.tick`. -/
theorem biqTickAndLast : Obligations.BiqTickAndLast := fun _ _ _ hu =>
  ⟨⟨⟨rfl, rfl⟩, ⟨rfl, rfl⟩⟩, unitTick_sample hu, unitRead_present hu Biq.y1⟩

/-- Settles O33: no command of the three filters refuses anything, so each answers what its rule makes of the unit; the setters
recompute the scale by `Opole.normalise` and `Ozero.normalise`. -/
theorem firstOrderFilters : Obligations.FirstOrderFilters := by
  refine ⟨fun s n u hu => ?opole, fun s n u hu => ?ozero, fun s n u hu => ?dcb⟩
  case opole =>
    exact ⟨⟨⟨rfl, rfl⟩, ⟨rfl, rfl⟩, ⟨rfl, rfl⟩, ⟨rfl, rfl⟩⟩, unitSet_update hu, unitSet_update hu, unitTick_sample hu,
      unitRead_present hu Opole.y1⟩
  case ozero =>
    exact ⟨⟨⟨rfl, rfl⟩, ⟨rfl, rfl⟩, ⟨rfl, rfl⟩, ⟨rfl, rfl⟩⟩, unitSet_update hu, unitSet_update hu, unitTick_sample hu,
      unitRead_present hu Ozero.last⟩
  case dcb => exact ⟨⟨⟨rfl, rfl⟩, ⟨rfl, rfl⟩⟩, unitTick_sample hu, unitRead_present hu Dcb.y1⟩

end Sys2Proof.Machine

/-! PROOFS. 42_envelopes.md: the commands of the ADSR (R211-R218) and of the breath envelope (R221-R226), and that their ticks never
pass the target (R219). -/

namespace Sys2Proof.Fmt

/-! ### Rounding keeps its side of every number of the format

Magnitude bits count up through the numbers of the format in their order, so an exact value lies between two neighbours
`scaled m` and `scaled (m + 1)`, and rounding answers one of the two. -/

/-- The count of a number whose exponent field is `e + 1`. -/
theorem scaled_normal {f : Fmt} {h : Nat} (e : Nat) (hh : h < 2 ^ (f.prec - 1)) :
    f.scaled ((e + 1) * 2 ^ (f.prec - 1) + h) = (h + 2 ^ (f.prec - 1)) * 2 ^ e := by
  have hdiv : ((e + 1) * 2 ^ (f.prec - 1) + h) / 2 ^ (f.prec - 1) = e + 1 := by
    rw [Nat.add_div_of_dvd_right (Nat.dvd_mul_left _ _), Nat.mul_div_cancel _ (Nat.two_pow_pos _), Nat.div_eq_of_lt hh,
      Nat.add_zero]
  simp [scaled, hdiv, Nat.mod_eq_of_lt hh]

/-- The count of an exponent and a significand. A significand may be `2 ^ prec`, the first of the next exponent. -/
theorem scaled_significand {f : Fmt} {q k : Nat} (hq : q ≤ 2 ^ f.prec) (hk : k = 0 ∨ 2 ^ (f.prec - 1) ≤ q) :
    f.scaled (k * 2 ^ (f.prec - 1) + q) = q * 2 ^ k := by
  have hprec : 2 ^ f.prec = 2 * 2 ^ (f.prec - 1) := by rw [← pow_succ', Nat.sub_add_cancel f.prec_pos]
  rcases Nat.lt_or_ge q (2 ^ (f.prec - 1)) with hlow | hlow
  · obtain rfl : k = 0 := by omega
    simp [scaled, Nat.div_eq_of_lt hlow, Nat.mod_eq_of_lt hlow]
  · obtain ⟨h, rfl⟩ := Nat.exists_eq_add_of_le' hlow
    rcases Nat.lt_or_ge h (2 ^ (f.prec - 1)) with hh | hh
    · rw [← scaled_normal k hh, Nat.succ_mul]
      congr 1
      omega
    · obtain rfl : h = 2 ^ (f.prec - 1) := by omega
      have hnext := scaled_normal (f := f) (k + 1) (Nat.two_pow_pos (f.prec - 1))
      calc f.scaled (k * 2 ^ (f.prec - 1) + (2 ^ (f.prec - 1) + 2 ^ (f.prec - 1)))
          = f.scaled ((k + 1 + 1) * 2 ^ (f.prec - 1) + 0) := by congr 1; ring
        _ = (2 ^ (f.prec - 1) + 2 ^ (f.prec - 1)) * 2 ^ k := by rw [hnext]; ring

theorem scaled_strictMono (f : Fmt) : StrictMono f.scaled := by
  refine strictMono_nat_of_lt_succ fun m => ?_
  obtain ⟨q, k, hs, hm, hq, hk⟩ := f.scaled_eq_significand m
  rw [hs, hm, Nat.add_assoc, scaled_significand hq (hk.imp_right Nat.le_succ_of_le)]
  exact Nat.mul_lt_mul_of_pos_right q.lt_succ_self (Nat.two_pow_pos k)

/-- The significand rounding picks for `n`: below `2 ^ prec`, and one of `prec` bits unless the exponent is 0. -/
theorem significand_of_exponent (f : Fmt) (n : Nat) :
    let k := Nat.log2 n + 1 - f.prec
    n / 2 ^ k < 2 ^ f.prec ∧ (k = 0 ∨ 2 ^ (f.prec - 1) ≤ n / 2 ^ k) := by
  intro k
  have hp := f.prec_pos
  refine ⟨Nat.div_lt_of_lt_mul ?_, ?_⟩
  · calc n < 2 ^ (n.log2 + 1) := Nat.lt_log2_self
      _ ≤ 2 ^ (k + f.prec) := Nat.pow_le_pow_right Nat.two_pos (by omega)
      _ = 2 ^ k * 2 ^ f.prec := pow_add ..
  · rcases Nat.eq_zero_or_pos k with hk | hk
    · exact .inl hk
    · have hn : n ≠ 0 := by
        rintro rfl
        simp only [k, Nat.log2_zero] at hk
        omega
      refine .inr ((Nat.le_div_iff_mul_le (Nat.two_pow_pos k)).mpr ?_)
      calc 2 ^ (f.prec - 1) * 2 ^ k = 2 ^ n.log2 := by rw [← pow_add]; congr 1; omega
        _ ≤ n := Nat.log2_self_le hn

/-- Rounding answers one of the two neighbours of `n`, the upper one only where `n` is not the lower one. -/
theorem roundMag_neighbours (f : Fmt) (n : Nat) :
    ∃ m, f.scaled m ≤ n ∧ n < f.scaled (m + 1)
      ∧ (f.roundMag n 1 = min m f.infMag ∨ (f.scaled m < n ∧ f.roundMag n 1 = min (m + 1) f.infMag)) := by
  obtain ⟨hq, hk⟩ := f.significand_of_exponent n
  simp only [roundMag, Nat.div_one, Nat.one_mul]
  generalize Nat.log2 n + 1 - f.prec = k at hq hk ⊢
  have hpow := Nat.two_pow_pos k
  have hn := Nat.div_add_mod' n (2 ^ k)
  have hr := Nat.mod_lt n hpow
  have hlow := scaled_significand hq.le hk
  have hhigh := scaled_significand hq (hk.imp_right Nat.le_succ_of_le)
  rw [Nat.succ_mul, Nat.succ_eq_add_one, ← Nat.add_assoc] at hhigh
  refine ⟨k * 2 ^ (f.prec - 1) + n / 2 ^ k, by omega, by omega, ?_⟩
  split
  · exact .inr ⟨by omega, by rw [Nat.add_assoc]⟩
  · exact .inl rfl

/-- A number at most `n` is at most `n` rounded. -/
theorem le_roundMag {f : Fmt} {m n : Nat} (hm : m ≤ f.infMag) (h : f.scaled m ≤ n) : m ≤ f.roundMag n 1 := by
  obtain ⟨l, -, hn, hr⟩ := f.roundMag_neighbours n
  have hml : m < l + 1 := f.scaled_strictMono.lt_iff_lt.mp (h.trans_lt hn)
  omega

/-- A number at least `n` is at least `n` rounded. -/
theorem roundMag_le {f : Fmt} {m n : Nat} (h : n ≤ f.scaled m) : f.roundMag n 1 ≤ m := by
  obtain ⟨l, hl, -, hr | ⟨hlt, hr⟩⟩ := f.roundMag_neighbours n
  · have := f.scaled_strictMono.le_iff_le.mp (hl.trans h)
    omega
  · have := f.scaled_strictMono.lt_iff_lt.mp (hlt.trans_le h)
    omega

/-! ### The order of rounded values -/

theorem infMag_pos (f : Fmt) : 0 < f.infMag := by cases f <;> decide

theorem infMag_lt (f : Fmt) : f.infMag < 2 ^ (f.width - 1) := by cases f <;> decide

theorem mag_lt (f : Fmt) (x : Flt) : f.mag x < 2 ^ (f.width - 1) := Nat.mod_lt _ (Nat.two_pow_pos _)

theorem isFinite_iff {f : Fmt} {x : Flt} : f.isFinite x = true ↔ f.mag x < f.infMag := decide_eq_true_iff

theorem isNaN_eq_false_iff {f : Fmt} {x : Flt} : f.isNaN x = false ↔ f.mag x ≤ f.infMag := by simp [isNaN]

theorem isInf_iff {f : Fmt} {x : Flt} : f.isInf x = true ↔ f.mag x = f.infMag := decide_eq_true_iff

theorem key_pack {f : Fmt} {s : Bool} {m : Nat} (h : m ≤ f.infMag) : f.key (f.pack s m) = if s then -(m : Int) else m := by
  rw [key, sign_pack, mag_pack f s (h.trans_lt f.infMag_lt)]

theorem isNaN_pack {f : Fmt} {s : Bool} {m : Nat} (h : m ≤ f.infMag) : f.isNaN (f.pack s m) = false := by
  rwa [isNaN_eq_false_iff, mag_pack f s (h.trans_lt f.infMag_lt)]

theorem roundMag_le_infMag (f : Fmt) (n d : Nat) : f.roundMag n d ≤ f.infMag := Nat.min_le_right ..

theorem isNaN_ofScaled (f : Fmt) (n : Int) (d : Nat) : f.isNaN (f.ofScaled n d) = false := isNaN_pack (f.roundMag_le_infMag ..)

theorem key_ofScaled (f : Fmt) (n : Int) (d : Nat) :
    f.key (f.ofScaled n d) = if n < 0 then -(f.roundMag n.natAbs d : Int) else f.roundMag n.natAbs d := by
  simp [ofScaled, key_pack (f.roundMag_le_infMag ..)]

/-- A number whose value is at most `n` is not above `n` rounded. -/
theorem key_le_ofScaled {f : Fmt} {z : Flt} {n : Int} (hz : f.isFinite z = true) (h : f.value z ≤ n) :
    f.key z ≤ f.key (f.ofScaled n 1) := by
  rw [key_ofScaled]
  cases hs : f.sign z
  case false =>
    simp only [value, key, hs, Bool.false_eq_true, if_false] at h ⊢
    have hround : f.mag z ≤ f.roundMag n.natAbs 1 := le_roundMag (isFinite_iff.mp hz).le (by omega)
    rw [if_neg (by omega)]
    exact Int.ofNat_le.mpr hround
  case true =>
    simp only [value, key, hs, if_true] at h ⊢
    split
    · next hn =>
      have hround : f.roundMag n.natAbs 1 ≤ f.mag z := roundMag_le (by omega)
      omega
    · omega

/-! ### The mirror image: negation -/

theorem sign_neg (f : Fmt) (x : Flt) : f.sign (f.neg x) = !f.sign x := sign_pack ..
theorem mag_neg (f : Fmt) (x : Flt) : f.mag (f.neg x) = f.mag x := mag_pack f _ (f.mag_lt x)
theorem isNaN_neg (f : Fmt) (x : Flt) : f.isNaN (f.neg x) = f.isNaN x := by rw [isNaN, isNaN, mag_neg]
theorem isInf_neg (f : Fmt) (x : Flt) : f.isInf (f.neg x) = f.isInf x := by rw [isInf, isInf, mag_neg]
theorem isFinite_neg (f : Fmt) (x : Flt) : f.isFinite (f.neg x) = f.isFinite x := by rw [isFinite, isFinite, mag_neg]

theorem key_neg (f : Fmt) (x : Flt) : f.key (f.neg x) = -f.key x := by
  rw [key, key, sign_neg, mag_neg]
  cases f.sign x <;> simp

theorem value_neg (f : Fmt) (x : Flt) : f.value (f.neg x) = -f.value x := by
  rw [value, value, sign_neg, mag_neg]
  cases f.sign x <;> simp

theorem key_ofScaled_neg (f : Fmt) (n : Int) : f.key (f.ofScaled (-n) 1) = -f.key (f.ofScaled n 1) := by
  rcases lt_trichotomy n 0 with hn | rfl | hn
  · rw [key_ofScaled, key_ofScaled, if_pos hn, if_neg (by omega), Int.natAbs_neg, Int.neg_neg]
  · simp
  · rw [key_ofScaled, key_ofScaled, if_neg hn.not_gt, if_pos (by omega), Int.natAbs_neg]

/-- A number whose value is at least `n` is not below `n` rounded. -/
theorem ofScaled_le_key {f : Fmt} {z : Flt} {n : Int} (hz : f.isFinite z = true) (h : n ≤ f.value z) :
    f.key (f.ofScaled n 1) ≤ f.key z := by
  have hneg := key_le_ofScaled (z := f.neg z) (n := -n) (by rwa [isFinite_neg]) (by rw [value_neg]; omega)
  rw [key_neg, key_ofScaled_neg] at hneg
  omega

/-! ### Sums -/

/-- A number is finite or infinite. -/
theorem isFinite_of_isNaN_isInf {f : Fmt} {x : Flt} (hn : f.isNaN x = false) (hi : f.isInf x = false) : f.isFinite x = true := by
  have hle := isNaN_eq_false_iff.mp hn
  have hne : f.mag x ≠ f.infMag := of_decide_eq_false hi
  exact isFinite_iff.mpr (by omega)

/-- The sum of finite data is the rounded exact sum, up to the sign of a zero. -/
theorem add_of_isFinite {f : Fmt} {x y : Flt} (hx : f.isFinite x = true) (hy : f.isFinite y = true) :
    f.isNaN (f.add x y) = false ∧ f.key (f.add x y) = f.key (f.ofScaled (f.value x + f.value y) 1) := by
  simp only [add, isNaN_of_isFinite hx, isNaN_of_isFinite hy, isInf_of_isFinite hx, isInf_of_isFinite hy, Bool.or_self,
    Bool.false_eq_true, if_false]
  split
  · next h0 => simp [h0, isNaN_pack, key_pack]
  · exact ⟨isNaN_ofScaled .., rfl⟩

/-- A finite datum and an infinity add up to that infinity. -/
theorem add_isInf_right {f : Fmt} {x y : Flt} (hx : f.isFinite x = true) (hy : f.isInf y = true) :
    f.add x y = f.inf (f.sign y) := by
  have hyn : f.isNaN y = false := isNaN_eq_false_iff.mpr (isInf_iff.mp hy).le
  simp [add, isNaN_of_isFinite hx, isInf_of_isFinite hx, hyn, hy]

/-- Every finite datum lies between the infinities. -/
theorem key_bounds {f : Fmt} {x : Flt} (hx : f.isFinite x = true) :
    f.key (f.inf true) ≤ f.key x ∧ f.key x ≤ f.key (f.inf false) := by
  have hm := isFinite_iff.mp hx
  simp only [inf, key_pack le_rfl, if_true, Bool.false_eq_true, if_false]
  unfold key
  split <;> omega

section
variable {f : Fmt} {x z r : Flt}

/-- A datum that is at least 0 has no minus sign, unless it is -0. -/
theorem sign_or_mag_of_nonneg (h : f.le 0#64 r = true) : f.sign r = false ∨ f.mag r = 0 := by
  obtain ⟨-, -, hkey⟩ := le_iff.mp h
  rw [key_zero, key] at hkey
  cases hs : f.sign r
  · exact .inl rfl
  · rw [hs, if_pos rfl] at hkey
    exact .inr (by omega)

theorem value_nonneg_of_le (h : f.le 0#64 r = true) : 0 ≤ f.value r := by
  rcases sign_or_mag_of_nonneg h with hs | hm
  · exact value_nonneg hs
  · simp [value, hm]

/-- A datum that is at least 0 is +infinity or finite. -/
theorem isInf_or_isFinite_of_nonneg (h : f.le 0#64 r = true) : (f.isInf r = true ∧ f.sign r = false) ∨ f.isFinite r = true := by
  cases hi : f.isInf r
  · exact .inr (isFinite_of_isNaN_isInf (le_iff.mp h).2.1 hi)
  · refine .inl ⟨rfl, (sign_or_mag_of_nonneg h).resolve_right fun hm => ?_⟩
    have hpos := f.infMag_pos
    rw [isInf_iff, hm] at hi
    omega

/-- Adding a rate ends at or above every number the exact sum reaches. -/
theorem le_add_rate (hx : f.isFinite x = true) (hz : f.isFinite z = true) (hr : f.le 0#64 r = true)
    (h : f.value z ≤ f.value x + f.value r) : f.le z (f.add x r) = true := by
  rcases isInf_or_isFinite_of_nonneg hr with ⟨hinf, hs⟩ | hfin
  · rw [add_isInf_right hx hinf, hs]
    exact le_iff.mpr ⟨isNaN_of_isFinite hz, isNaN_pack le_rfl, (key_bounds hz).2⟩
  · obtain ⟨hn, hkey⟩ := add_of_isFinite hx hfin
    exact le_iff.mpr ⟨isNaN_of_isFinite hz, hn, (key_le_ofScaled hz h).trans_eq hkey.symm⟩

/-- Subtracting a rate ends at or below every number the exact difference reaches. -/
theorem sub_rate_le (hx : f.isFinite x = true) (hz : f.isFinite z = true) (hr : f.le 0#64 r = true)
    (h : f.value x - f.value r ≤ f.value z) : f.le (f.sub x r) z = true := by
  rcases isInf_or_isFinite_of_nonneg hr with ⟨hinf, hs⟩ | hfin
  · rw [sub, add_isInf_right hx (by rwa [isInf_neg]), sign_neg, hs]
    exact le_iff.mpr ⟨isNaN_pack le_rfl, isNaN_of_isFinite hz, (key_bounds hz).1⟩
  · obtain ⟨hn, hkey⟩ := add_of_isFinite (y := f.neg r) hx (by rwa [isFinite_neg])
    rw [value_neg, ← sub_eq_add_neg] at hkey
    exact le_iff.mpr ⟨hn, isNaN_of_isFinite hz, hkey.trans_le (ofScaled_le_key hz h)⟩

theorem le_refl_of_isFinite (h : f.isFinite x = true) : f.le x x = true :=
  le_iff.mpr ⟨isNaN_of_isFinite h, isNaN_of_isFinite h, le_rfl⟩

theorem le_of_lt (h : f.lt x z = true) : f.le x z = true := by
  obtain ⟨hx, hz, hkey⟩ := lt_iff.mp h
  exact le_iff.mpr ⟨hx, hz, hkey.le⟩

/-- Data that are no NaN are comparable. -/
theorem le_of_not_le (hx : f.isNaN x = false) (hz : f.isNaN z = false) (h : f.le x z = false) : f.le z x = true := by
  refine le_iff.mpr ⟨hz, hx, le_of_not_ge fun hkey => ?_⟩
  rw [le_iff.mpr ⟨hx, hz, hkey⟩] at h
  cases h

end

end Sys2Proof.Fmt

namespace Sys2Proof.Machine

/-! ### One step of an envelope (R210, R219) -/

section
variable {f : Fmt} {value target rate : Flt}

theorem envStep_rising (h : f.lt value target = true) :
    envStep f value target rate = if f.le target (f.add value rate) then target else f.add value rate := if_pos h

theorem envStep_falling (h : f.lt target value = true) :
    envStep f value target rate = if f.le (f.sub value rate) target then target else f.sub value rate := by
  rw [envStep, Fmt.lt_asymm h, if_neg Bool.false_ne_true, if_pos h]

theorem envStep_settled (hup : f.lt value target = false) (hdown : f.lt target value = false) :
    envStep f value target rate = value := by
  rw [envStep, hup, hdown, if_neg Bool.false_ne_true, if_neg Bool.false_ne_true]

section
variable (hv : f.isFinite value = true) (ht : f.isFinite target = true) (hr : f.le 0#64 rate = true)
include hv ht hr

/-- Below its target a value rises, at most to the target, and onto it where the rate covers the exact distance. -/
theorem envStep_rising_bounds (h : f.lt value target = true) :
    f.le value (envStep f value target rate) = true ∧ f.le (envStep f value target rate) target = true
      ∧ (f.value target - f.value value ≤ f.value rate → envStep f value target rate = target) := by
  have hstep := Fmt.le_add_rate hv hv hr (Int.le_add_of_nonneg_right (Fmt.value_nonneg_of_le hr))
  rw [envStep_rising h]
  cases hreached : f.le target (f.add value rate)
  · have hbelow := Fmt.le_of_not_le (Fmt.isNaN_of_isFinite ht) (Fmt.le_iff.mp hstep).2.1 hreached
    refine ⟨hstep, hbelow, fun hdist => ?_⟩
    have hover := Fmt.le_add_rate hv ht hr (by omega)
    rw [hreached] at hover
    cases hover
  · exact ⟨Fmt.le_of_lt h, Fmt.le_refl_of_isFinite ht, fun _ => rfl⟩

/-- Above its target a value falls, at most to the target, and onto it where the rate covers the exact distance. -/
theorem envStep_falling_bounds (h : f.lt target value = true) :
    f.le target (envStep f value target rate) = true ∧ f.le (envStep f value target rate) value = true
      ∧ (f.value value - f.value target ≤ f.value rate → envStep f value target rate = target) := by
  have hstep := Fmt.sub_rate_le hv hv hr (Int.sub_le_self _ (Fmt.value_nonneg_of_le hr))
  rw [envStep_falling h]
  cases hreached : f.le (f.sub value rate) target
  · have habove := Fmt.le_of_not_le (Fmt.le_iff.mp hstep).1 (Fmt.isNaN_of_isFinite ht) hreached
    refine ⟨habove, hstep, fun hdist => ?_⟩
    have hunder := Fmt.sub_rate_le hv ht hr (by omega)
    rw [hreached] at hunder
    cases hunder
  · exact ⟨Fmt.le_refl_of_isFinite ht, Fmt.le_of_lt h, fun _ => rfl⟩

end

end

/-! ### Rate operands and rate bases (R211, R213, R214, R221) -/

theorem rateOperand_nan {f : Fmt} {r : Flt} (h : f.isNaN r = true) : rateOperand f r = .raise 0 errOperand := if_pos h

/-- A rate that is a number is stored as its magnitude, with WARN_RATE where that changes it. -/
theorem rateOperand_number {f : Fmt} {r : Flt} (h : f.isNaN r = false) :
    rateOperand f r = .ok (if f.lt r 0#64 then 0x4#32 else 0#32) (if f.lt r 0#64 then f.abs r else r) := by
  rcases rateOperand_cases f r with ⟨hn, -⟩ | ⟨-, hlt, hr⟩ | ⟨-, hlt, hr⟩
  · rw [h] at hn
    cases hn
  · rw [hr, hlt]
    rfl
  · rw [hr, hlt]
    rfl

section
variable {α : Type} {bank : List α} {put : State → List α → State} {n : Nat} {s : State} {u : α} {f : Fmt} {r : Flt}
  {store : α → Flt → α} (hu : bank[n]? = some u)
include hu

/-- A command that stores a rate refuses a NaN. -/
theorem unitSet_rate_nan (h : f.isNaN r = true) :
    unitSet bank put n s (fun u => (rateOperand f r).map (store u)) = .next (s.after 0x8080#32) :=
  unitSet_refused hu (by rw [rateOperand_nan h, Res.map_raise])

theorem unitSet_rate_number (h : f.isNaN r = false) :
    unitSet bank put n s (fun u => (rateOperand f r).map (store u)) =
      .next (put (s.after (if f.lt r 0#64 then 0x4#32 else 0#32))
        (bank.set n (store u (if f.lt r 0#64 then f.abs r else r)))) :=
  unitSet_ok hu (by rw [rateOperand_number h, Res.map_ok])

end

section
variable {c : Ctx} {a d s r : Flt} (u : Adsr)

theorem Adsr.settimes_unset (hb : positive c.f c.basis = false) : u.settimes c a d s r = .raise 0 errState :=
  Res.require_unmet hb

theorem Adsr.settimes_refused (hb : positive c.f c.basis = true)
    (hn : (c.f.isNaN a || c.f.isNaN d || c.f.isNaN s || c.f.isNaN r) = true) : u.settimes c a d s r = .raise 0 errOperand :=
  (Res.require_met hb).trans (Res.require_unmet (congrArg not hn))

theorem Adsr.settimes_ok (hb : positive c.f c.basis = true)
    (hn : (c.f.isNaN a || c.f.isNaN d || c.f.isNaN s || c.f.isNaN r) = false) :
    u.settimes c a d s r =
      .ok 0 { u with attackRate := c.rateOf a, decayRate := c.rateOf d, sustain := s, releaseRate := c.rateOf r } :=
  (Res.require_met hb).trans (Res.require_met (congrArg not hn))

end

/-- Settles O38: both ticks answer `envStep`, which rises, falls or stays by the order of value and target; the bounds rest on
rounding keeping its side of every number of the format (`Fmt.le_roundMag`, `Fmt.roundMag_le`). -/
theorem envelopesNeverOvershoot : Obligations.EnvelopesNeverOvershoot := by
  intro s n value target rate f hv ht hr good
  have hgood : good (envStep f value target rate) :=
    ⟨envStep_rising_bounds hv ht hr, envStep_falling_bounds hv ht hr, envStep_settled⟩
  refine ⟨?adsr, ?env⟩
  case adsr =>
    rintro u hu rfl rfl rfl
    exact ⟨_, unitTick_sample hu, hgood⟩
  case env =>
    rintro u hu rfl rfl rfl
    exact ⟨_, unitTick_sample hu, hgood⟩

/-- Settles O34: adsr.settimes answers by its two requirements in the order of R211. -/
theorem adsrSettimes : Obligations.AdsrSettimes := by
  intro s n u hu
  refine ⟨⟨rfl, rfl⟩, fun hb => ?_, fun hb hnan => ?_, fun hb hnan => ?_⟩
  · exact unitSet_unset hu (Adsr.settimes_unset u hb)
  · exact unitSet_refused hu (Adsr.settimes_refused u hb hnan)
  · exact unitSet_ok hu (Adsr.settimes_ok u hb hnan)

/-- Settles O35: the three commands read their operand by `rateOperand` and differ in the field they store. -/
theorem envelopeRates : Obligations.EnvelopeRates := by
  intro s n f r w
  refine ⟨⟨⟨rfl, rfl⟩, ⟨rfl, rfl⟩, ⟨rfl, rfl⟩⟩, fun u hu => ⟨fun hn => ?_, fun hn => ?_⟩,
    fun u hu => ⟨fun hn => ?_, fun hn => ?_⟩⟩
  · exact ⟨unitSet_rate_nan hu hn, unitSet_rate_nan hu hn⟩
  · exact ⟨unitSet_rate_number hu hn, unitSet_rate_number hu hn⟩
  · exact unitSet_rate_nan hu hn
  · exact unitSet_rate_number hu hn

/-- Settles O36: none of the six commands refuses anything, so each stores what its rule makes of the unit. -/
theorem envelopeSegments : Obligations.EnvelopeSegments := fun _ _ =>
  ⟨⟨⟨rfl, rfl⟩, ⟨rfl, rfl⟩, ⟨rfl, rfl⟩, ⟨rfl, rfl⟩, ⟨rfl, rfl⟩, ⟨rfl, rfl⟩⟩,
    fun _ hu => ⟨unitSet_update hu, unitSet_update hu, unitSet_update hu⟩,
    fun _ hu => ⟨unitSet_update hu, unitSet_update hu, unitSet_update hu⟩⟩

/-- Settles O37: the sample of both envelopes is `envStep`. -/
theorem envelopeTicks : Obligations.EnvelopeTicks := fun _ _ =>
  ⟨⟨⟨rfl, rfl⟩, ⟨rfl, rfl⟩, ⟨rfl, rfl⟩, ⟨rfl, rfl⟩⟩,
    fun _ hu => ⟨unitTick_sample hu, unitRead_present hu Adsr.value⟩,
    fun _ hu => ⟨unitTick_sample hu, unitRead_present hu Env.value⟩⟩

end Sys2Proof.Machine

/-! PROOFS. 43_tables_noise_vibrato.md: block control (R260-R263), the nonlinear tables (R240-R248), the noise generator (R250, R251) and
the vibrato oscillator (R253-R256). -/

namespace Sys2Proof.Fmt

/-! ### Operations that answer a number

IEEE 754 makes a NaN of operands that are none in four cases only: a difference of infinities, an infinity times 0, and the quotients
of two infinities and of two zeros. -/

section
variable {f : Fmt} {x y : Flt}

theorem sign_abs (f : Fmt) (x : Flt) : f.sign (f.abs x) = false := sign_pack ..
theorem mag_abs (f : Fmt) (x : Flt) : f.mag (f.abs x) = f.mag x := mag_pack f _ (f.mag_lt x)
theorem isNaN_abs (f : Fmt) (x : Flt) : f.isNaN (f.abs x) = f.isNaN x := by rw [isNaN, isNaN, mag_abs]

theorem mag_ne_zero_of_isInf (h : f.isInf x = true) : f.mag x ≠ 0 := by
  rw [isInf_iff.mp h]
  exact f.infMag_pos.ne'

theorem not_isInf_of_isFinite (h : f.isFinite x = true) : ¬ f.isInf x = true := by
  rw [isInf_of_isFinite h]
  exact Bool.false_ne_true

theorem isNaN_add (hx : f.isNaN x = false) (hy : f.isNaN y = false) (h : f.isFinite x = true ∨ f.isFinite y = true) :
    f.isNaN (f.add x y) = false := by
  simp only [add, hx, hy, Bool.or_self, Bool.false_eq_true, if_false]
  split
  · next hi =>
    have hfin := h.resolve_left fun hfin => not_isInf_of_isFinite hfin hi
    simp [isInf_of_isFinite hfin, inf, isNaN_pack]
  split
  · exact isNaN_pack le_rfl
  split
  · exact isNaN_pack (Nat.zero_le _)
  · exact isNaN_ofScaled ..

/-- A product that is no infinity times 0 is a number with the sign of the two signs. -/
theorem mul_eq_pack (hx : f.isNaN x = false) (hy : f.isNaN y = false) (hxy : f.isInf x = true → f.mag y ≠ 0)
    (hyx : f.isInf y = true → f.mag x ≠ 0) : ∃ m ≤ f.infMag, f.mul x y = f.pack (f.sign x != f.sign y) m := by
  simp only [mul, hx, hy, Bool.or_self, Bool.false_eq_true, if_false]
  split
  · next hi => exact ⟨_, le_rfl, if_neg (hxy hi)⟩
  split
  · next hi => exact ⟨_, le_rfl, if_neg (hyx hi)⟩
  · exact ⟨_, f.roundMag_le_infMag .., rfl⟩

/-- A quotient that is neither of infinities nor of zeros is a number with the sign of the two signs. -/
theorem div_eq_pack (hx : f.isNaN x = false) (hy : f.isNaN y = false) (hinf : f.isInf x = true → f.isInf y = false)
    (hzero : f.mag y = 0 → f.mag x ≠ 0) : ∃ m ≤ f.infMag, f.div x y = f.pack (f.sign x != f.sign y) m := by
  simp only [div, hx, hy, Bool.or_self, Bool.false_eq_true, if_false]
  split
  · next hi => exact ⟨_, le_rfl, if_neg (Bool.eq_false_iff.mp (hinf hi))⟩
  split
  · exact ⟨0, Nat.zero_le _, rfl⟩
  split
  · next h0 => exact ⟨_, le_rfl, if_neg (hzero h0)⟩
  · exact ⟨_, f.roundMag_le_infMag .., rfl⟩

theorem isNaN_mul (hx : f.isNaN x = false) (hy : f.isFinite y = true) (hxy : f.isInf x = true → f.mag y ≠ 0) :
    f.isNaN (f.mul x y) = false := by
  obtain ⟨m, hm, hmul⟩ := mul_eq_pack hx (isNaN_of_isFinite hy) hxy fun h => absurd h (not_isInf_of_isFinite hy)
  rw [hmul, isNaN_pack hm]

theorem isNaN_mul_of_isFinite (hx : f.isFinite x = true) (hy : f.isFinite y = true) : f.isNaN (f.mul x y) = false :=
  isNaN_mul (isNaN_of_isFinite hx) hy fun h => absurd h (not_isInf_of_isFinite hx)

/-- A square is a number without a minus sign. -/
theorem square_unsigned (hx : f.isNaN x = false) : f.isNaN (f.mul x x) = false ∧ f.sign (f.mul x x) = false := by
  obtain ⟨m, hm, hmul⟩ := mul_eq_pack hx hx mag_ne_zero_of_isInf mag_ne_zero_of_isInf
  rw [hmul, isNaN_pack hm, sign_pack, bne_self_eq_false]
  exact ⟨rfl, rfl⟩

theorem sign_one (f : Fmt) : f.sign f.one = false := by cases f <;> decide +kernel
theorem mag_one_ne_zero (f : Fmt) : f.mag f.one ≠ 0 := by cases f <;> decide +kernel

/-- The reciprocal of a number without a minus sign is another one, also where it overflows or is that of +0. -/
theorem reciprocal_unsigned (hy : f.isNaN y = false) (hs : f.sign y = false) :
    f.isNaN (f.div f.one y) = false ∧ f.sign (f.div f.one y) = false := by
  obtain ⟨m, hm, hdiv⟩ := div_eq_pack f.isNaN_one hy (fun h => absurd h (not_isInf_of_isFinite f.isFinite_one))
    fun _ => f.mag_one_ne_zero
  rw [hdiv, isNaN_pack hm, sign_pack, sign_one, hs]
  exact ⟨rfl, rfl⟩

theorem mag_square_of_mag_zero (h : f.mag x = 0) : f.mag (f.mul x x) = 0 := by
  have hfin : f.isFinite x = true := isFinite_iff.mpr (h ▸ f.infMag_pos)
  have hround : f.roundMag 0 (2 ^ f.unit) = 0 := by simp [roundMag, Nat.sub_eq_zero_of_le (Nat.succ_le_of_lt f.prec_pos)]
  simp only [mul, isNaN_of_isFinite hfin, isInf_of_isFinite hfin, Bool.or_self, Bool.false_eq_true, if_false, h, scaled_zero,
    Nat.zero_mul, hround]
  exact mag_pack f _ (Nat.two_pow_pos _)

/-- A cube is a number: the square of 0 is no infinity. -/
theorem isNaN_cube (hx : f.isFinite x = true) : f.isNaN (f.mul (f.mul x x) x) = false :=
  isNaN_mul (isNaN_mul_of_isFinite hx hx) hx fun hi h0 => mag_ne_zero_of_isInf hi (mag_square_of_mag_zero h0)

/-! ### Values between bounds (R248, R250) -/

theorem le_of_not_lt (hx : f.isNaN x = false) (hy : f.isNaN y = false) (h : f.lt x y = false) : f.le y x = true := by
  refine le_iff.mpr ⟨hy, hx, le_of_not_gt fun hkey => ?_⟩
  rw [lt_iff.mpr ⟨hx, hy, hkey⟩] at h
  cases h

theorem zero_le_of_unsigned (hx : f.isNaN x = false) (hs : f.sign x = false) : f.le 0#64 x = true := by
  refine le_iff.mpr ⟨f.isNaN_zero, hx, ?_⟩
  rw [key_zero, key, hs]
  exact Int.natCast_nonneg _

/-- A number that is clamped lies between the bounds. -/
theorem clamp_bounds {v lo hi : Flt} (hv : f.isNaN v = false) (h : f.le lo hi = true) :
    f.le lo (f.clamp v lo hi) = true ∧ f.le (f.clamp v lo hi) hi = true := by
  obtain ⟨hlo, hhi, -⟩ := le_iff.mp h
  rcases clamp_cases f v lo hi with hc | hc | ⟨hc, hge, hle⟩ <;> rw [hc]
  · exact ⟨le_iff.mpr ⟨hlo, hlo, le_rfl⟩, h⟩
  · exact ⟨h, le_iff.mpr ⟨hhi, hhi, le_rfl⟩⟩
  · exact ⟨le_of_not_lt hv hlo hge, le_of_not_lt hhi hv hle⟩

theorem key_minus_one (f : Fmt) : f.key (f.lit (-1) 1) = -f.key f.one := by
  rw [one, lit, lit, neg_one_mul, one_mul, key_ofScaled_neg]

theorem minus_one_le_one (f : Fmt) : f.le (f.lit (-1) 1) f.one = true := by cases f <;> decide +kernel

theorem mag_fit (f : Fmt) (x : Flt) : f.mag (f.fit x) = f.mag x := by rw [← pack_sign_mag, mag_pack f _ (f.mag_lt x)]
theorem sign_fit (f : Fmt) (x : Flt) : f.sign (f.fit x) = f.sign x := by rw [← pack_sign_mag, sign_pack]
theorem isNaN_fit (f : Fmt) (x : Flt) : f.isNaN (f.fit x) = f.isNaN x := by rw [isNaN, isNaN, mag_fit]
theorem key_fit (f : Fmt) (x : Flt) : f.key (f.fit x) = f.key x := by rw [key, key, mag_fit, sign_fit]

theorem key_abs (f : Fmt) (x : Flt) : f.key (f.abs x) = |f.key x| := by
  rw [key, key, sign_abs, mag_abs]
  cases f.sign x <;> simp

/-- A datum of magnitude at most 1 is a number in [-1, 1]. -/
theorem fit_bounds (h : f.le (f.abs x) f.one = true) :
    f.le (f.lit (-1) 1) (f.fit x) = true ∧ f.le (f.fit x) f.one = true := by
  obtain ⟨hn, hone, hkey⟩ := le_iff.mp h
  rw [isNaN_abs, ← isNaN_fit] at hn
  rw [key_abs, ← key_fit, abs_le, ← key_minus_one] at hkey
  obtain ⟨hlow, hhigh⟩ := hkey
  exact ⟨le_iff.mpr ⟨isNaN_ofScaled .., hn, hlow⟩, le_iff.mpr ⟨hn, hone, hhigh⟩⟩

theorem zero_bounds (f : Fmt) : f.le (f.lit (-1) 1) 0#64 = true ∧ f.le 0#64 f.one = true := by cases f <;> decide +kernel

end

end Sys2Proof.Fmt

namespace Sys2Proof.Machine

/-! ### The nonlinear tables (R241, R245, R247, R248) -/

section
variable {f : Fmt} {x : Flt} (hx : f.isFinite x = true)
include hx

/-- The fourth power has no minus sign and is no NaN even where it overflows, so neither is its reciprocal. -/
theorem Bow.lookup_bounds {u : Bow} (hs : f.isFinite u.slope = true) :
    f.le 0#64 (u.lookup f x) = true ∧ f.le (u.lookup f x) f.one = true := by
  have hpoint : f.isNaN (f.add (f.abs (f.mul x u.slope)) (f.lit 75 100)) = false := by
    have habs : f.isNaN (f.abs (f.mul x u.slope)) = false := by rw [Fmt.isNaN_abs, Fmt.isNaN_mul_of_isFinite hx hs]
    have hfin : f.isFinite (f.lit 75 100) = true := by cases f <;> decide +kernel
    exact Fmt.isNaN_add habs (Fmt.isNaN_of_isFinite hfin) (.inr hfin)
  obtain ⟨hsq, -⟩ := Fmt.square_unsigned hpoint
  obtain ⟨hfourth, hsign⟩ := Fmt.square_unsigned hsq
  obtain ⟨hrec, hpos⟩ := Fmt.reciprocal_unsigned hfourth hsign
  unfold Bow.lookup
  dsimp only
  split
  · exact ⟨f.zero_bounds.2, Fmt.le_refl_of_isFinite f.isFinite_one⟩
  · next hle => exact ⟨Fmt.zero_le_of_unsigned hrec hpos, Fmt.le_of_not_lt f.isNaN_one hrec (Bool.eq_false_iff.mpr hle)⟩

theorem Reed.lookup_bounds {u : Reed} (ho : f.isFinite u.offset = true) (hs : f.isFinite u.slope = true) :
    f.le (f.lit (-1) 1) (u.lookup f x) = true ∧ f.le (u.lookup f x) f.one = true :=
  Fmt.clamp_bounds (Fmt.isNaN_add (Fmt.isNaN_of_isFinite ho) (Fmt.isNaN_mul_of_isFinite hs hx) (.inl ho)) f.minus_one_le_one

theorem Jet.lookup_bounds (u : Jet) :
    f.le (f.lit (-1) 1) (u.lookup f x) = true ∧ f.le (u.lookup f x) f.one = true := by
  have hneg : f.isFinite (f.neg x) = true := by rwa [Fmt.isFinite_neg]
  exact Fmt.clamp_bounds (Fmt.isNaN_add (Fmt.isNaN_cube hx) (Fmt.isNaN_of_isFinite hneg) (.inr hneg)) f.minus_one_le_one

end

/-- The rule of R241 with its numeral 0.75 written as 3/4. -/
theorem Bow.lookup_eq (f : Fmt) (x : Flt) (u : Bow) :
    u.lookup f x =
      let a := f.add (f.abs (f.mul x u.slope)) (f.lit 3 4)
      let y := f.div f.one (f.mul (f.mul a a) (f.mul a a))
      if f.lt f.one y then f.one else y := by
  have hlit : f.lit 75 100 = f.lit 3 4 := by cases f <;> decide +kernel
  rw [Bow.lookup, hlit]

/-- Settles O40: each lookup reads the shaping function at A0, which is a number before it is clamped. -/
theorem lookupsSaturate : Obligations.LookupsSaturate := fun _ _ ha =>
  ⟨fun _ hu hs => ⟨_, unitRead_present hu _, Bow.lookup_bounds ha hs⟩,
    fun _ hu ho hs => ⟨_, unitRead_present hu _, Reed.lookup_bounds ha ho hs⟩,
    fun u hu => ⟨_, unitRead_present hu _, Jet.lookup_bounds ha u⟩⟩

/-- Settles O39: the setters refuse nothing and the lookups read the shaping function at A0. -/
theorem nonlinearTables : Obligations.NonlinearTables := by
  intro s n f clamp
  refine ⟨⟨⟨rfl, rfl⟩, ⟨rfl, rfl⟩, ⟨rfl, rfl⟩, ⟨rfl, rfl⟩, ⟨rfl, rfl⟩, ⟨rfl, rfl⟩⟩, fun u hu => ?bow, fun u hu => ?reed,
    fun u hu => ?jet⟩
  case bow =>
    have hread := unitRead_present (s := s) hu (Bow.lookup f s.a0)
    rw [Bow.lookup_eq] at hread
    exact ⟨unitSet_update hu, hread⟩
  case reed => exact ⟨unitSet_update hu, unitSet_update hu, unitRead_present hu (Reed.lookup f s.a0)⟩
  case jet => exact unitRead_present hu (Jet.lookup f s.a0)

/-! ### Commands of a unit the block has that draw free values or need a table -/

section
variable {α : Type} {bank : List α} {put : State → List α → State} {n : Nat} {s : State} {u : α}

theorem unitSet_notable {op : α → Res α} (h : bank[n]? = some u) (ho : op u = .raise 0 errNotable) :
    unitSet bank put n s op = .next (s.after 0x8010#32) := by
  unfold unitSet
  simp only [h, ho, State.abandon_notable]

theorem unitDraw_unset {op : α → Fx → Res (Flt × α × Fx)} (h : bank[n]? = some u)
    (ho : op u (s.fx false) = .raise 0 errState) : unitDraw bank put n s op = .next (s.after 0x8040#32) := by
  unfold unitDraw
  simp only [h, ho, State.abandon_state]

theorem unitDraw_ok {op : α → Fx → Res (Flt × α × Fx)} {w : U32} {r : Flt × α × Fx} (h : bank[n]? = some u)
    (ho : op u (s.fx false) = .ok w r) :
    unitDraw bank put n s op = .next (((put (s.after w) (bank.set n r.2.1)).takeFx r.2.2).setY r.1) := by
  unfold unitDraw
  simp only [h, ho, State.start_warn_eq_after]

end

/-! ### Noise (R250, R251; log 6) -/

/-- Whatever NOISE_SRC answers, what is read is a number in [-1, 1]. -/
theorem legalDraw_bounds (f : Fmt) (v : Flt) :
    f.le (f.lit (-1) 1) (legalDraw f v) = true ∧ f.le (legalDraw f v) f.one = true := by
  unfold legalDraw
  split
  · next h => exact Fmt.fit_bounds h
  · exact f.zero_bounds

/-- A draw is the statements' `drawStep`, its scripted answers and its counter stored back. -/
theorem draw_eq_drawStep (s : State) (strict : Bool) :
    draw s.params.fmt (s.fx strict) =
      ((drawStep s).1, { s.fx strict with noise := (drawStep s).2.1, free := (drawStep s).2.2 }) := by
  unfold draw drawStep State.fx
  cases s.noiseIn <;> rfl

theorem drawStep_legal (s : State) : ∃ v, (drawStep s).1 = legalDraw s.params.fmt v := by
  unfold drawStep
  cases s.noiseIn
  case nil => exact ⟨_, rfl⟩
  case cons v rest => exact ⟨v, rfl⟩

theorem drawStep_bounds (s : State) :
    s.params.fmt.le (s.params.fmt.lit (-1) 1) (drawStep s).1 = true ∧ s.params.fmt.le (drawStep s).1 s.params.fmt.one = true := by
  obtain ⟨v, hv⟩ := drawStep_legal s
  rw [hv]
  exact legalDraw_bounds _ v

theorem Noise.tick_eq_drawStep (s : State) (u : Noise) (strict : Bool) :
    u.tick s.params.fmt (s.fx strict) =
      ((drawStep s).1, ⟨(drawStep s).1⟩, { s.fx strict with noise := (drawStep s).2.1, free := (drawStep s).2.2 }) := by
  rw [Noise.tick, draw_eq_drawStep]

/-- Settles O41: a tick is one `drawStep`, whose value `legalDraw` bounds. -/
theorem noiseCommands : Obligations.NoiseCommands := by
  intro s n u hu f d
  obtain ⟨hlow, hhigh⟩ := drawStep_bounds s
  refine ⟨⟨⟨rfl, rfl⟩, ⟨rfl, rfl⟩⟩, ?_, hlow, hhigh, unitRead_present hu Noise.last⟩
  exact unitDraw_ok (op := fun u fx => .ok 0 (u.tick s.params.fmt fx)) hu (congrArg _ (Noise.tick_eq_drawStep s u false))

/-! ### Vibrato (R253-R256) -/

section
variable {c : Ctx} {id : Nat} {hz : Flt} (u : Vib)

theorem Vib.settab_absent (h : tableLen c.tables id = 0) : u.settab c id = .raise 0 errNotable :=
  Res.require_unmet (decide_eq_false (not_not.mpr h))

theorem Vib.settab_present (h : tableLen c.tables id ≠ 0) :
    u.settab c id =
      .ok 0
        { u with
          tab := BitVec.ofNat 32 id, len := tableLen c.tables id, phase := 0#64, last := 0#64
          rate := if c.f.lt 0#64 c.sr then c.f.div (c.f.mul u.freq (c.f.fromNat (tableLen c.tables id))) c.sr else u.rate } :=
  Res.require_met (decide_eq_true h)

theorem Vib.setfreq_unset (hsr : positive c.f c.sr = false) : u.setfreq c hz = .raise 0 errState := Res.require_unmet hsr

theorem Vib.setfreq_refused (hsr : positive c.f c.sr = true) (hfin : c.f.isFinite hz = false) :
    u.setfreq c hz = .raise 0 errOperand :=
  (Res.require_met hsr).trans (Res.require_unmet hfin)

theorem Vib.setfreq_ok (hsr : positive c.f c.sr = true) (hfin : c.f.isFinite hz = true) :
    u.setfreq c hz = .ok 0 { u with freq := hz, rate := c.f.div (c.f.mul hz (c.f.fromNat u.len)) c.sr } :=
  (Res.require_met hsr).trans (Res.require_met hfin)

end

/-- Settles O42: settab and setfreq answer by their requirements in the order of R253 and R254. -/
theorem vibConfigure : Obligations.VibConfigure := by
  intro s n u hu f len put
  refine ⟨⟨⟨rfl, rfl⟩, ⟨rfl, rfl⟩⟩, fun habsent => ?_, fun hpresent => ?_, fun hsr => ?_, fun hsr hfin => ?_, fun hsr hfin => ?_⟩
  · exact unitSet_notable hu (Vib.settab_absent u habsent)
  · have hset := Vib.settab_present (c := s.ctx) (id := s.iarg.toNat) u hpresent
    rw [BitVec.ofNat_toNat, BitVec.setWidth_eq] at hset
    exact unitSet_ok hu hset
  · exact unitSet_unset hu (Vib.setfreq_unset u hsr)
  · exact unitSet_refused hu (Vib.setfreq_refused u hsr hfin)
  · exact unitSet_ok hu (Vib.setfreq_ok u hsr hfin)

theorem Vib.tick_unloaded {c : Ctx} {u : Vib} (fx : Fx) (h : u.len = 0) : u.tick c fx = .raise 0 errState :=
  Res.require_unmet (decide_eq_false (by omega))

/-- A tick of a loaded vibrato is the statements' `vibStep`. -/
theorem Vib.tick_loaded {s : State} {u : Vib} (fx : Fx) (h : 0 < u.len) :
    u.tick s.ctx fx =
      .ok 0 ((vibStep s u fx.free).1, (vibStep s u fx.free).2.1, { fx with free := (vibStep s u fx.free).2.2 }) :=
  Res.require_met (decide_eq_true h)

/-- A listed wavetable has the length the port answers (20_memory.md R74). -/
theorem tableLen_of_find {tables : List (Nat × List Flt)} {id : U32} {words : List Flt} (h0 : id ≠ 0#32)
    (hf : Assoc.find id.toNat tables = some words) : tableLen tables id.toNat = words.length := by
  have hpos : id.toNat ≠ 0 := fun h => h0 (BitVec.eq_of_toNat_eq h)
  have hlt := id.isLt
  rw [tableLen, if_neg (by omega), hf, Option.getD_some]

/-- Where the table still has the captured length, a word inside it is the table's and no free value is drawn (R75). -/
theorem tableRead_word {f : Fmt} {tables : List (Nat × List Flt)} {id len i : Nat} {words : List Flt} (free : Nat)
    (hlen : tableLen tables id = len) (hf : Assoc.find id tables = some words) (hi : i < words.length) :
    tableRead f tables id len i free = (words[i], free) := by
  rw [tableRead, if_pos hlen, hf, Option.getD_some, List.getD_eq_getElem _ _ hi]

/-- A tick whose two reads answer the words `a` and `b` interpolates between them and draws nothing. -/
theorem vibStep_of_reads {s : State} {u : Vib} {free : Nat} {a b : Flt} :
    let f := s.params.fmt
    let phase := (vibStep s u free).2.1.phase
    let i := (f.floor phase).toNat
    tableRead f s.tables u.tab.toNat u.len i free = (a, free) →
    tableRead f s.tables u.tab.toNat u.len ((i + 1) % u.len) free = (b, free) →
    (vibStep s u free).1 = f.add a (f.mul (f.sub phase (f.fromNat i)) (f.sub b a)) ∧ (vibStep s u free).2.2 = free := by
  intro f phase i ha hb
  simp only [f, phase, i, vibStep] at ha hb ⊢
  rw [ha, hb]
  exact ⟨rfl, rfl⟩

/-- The phase is wrapped below the captured length, so both words read are the table's where the host kept it (R255, R75). -/
theorem vibStep_words {s : State} {u : Vib} {words : List Flt} (free : Nat) (h0 : u.tab ≠ 0#32)
    (hf : Assoc.find u.tab.toNat s.tables = some words) (hlen : words.length = u.len) (hpos : 0 < u.len) :
    let f := s.params.fmt
    let v := vibStep s u free
    let i := (f.floor v.2.1.phase).toNat
    ∃ a b, words[i]? = some a ∧ words[(i + 1) % u.len]? = some b ∧ v.2.2 = free
      ∧ v.1 = f.add a (f.mul (f.sub v.2.1.phase (f.fromNat i)) (f.sub b a)) := by
  intro f v i
  have hi : i < words.length := (Fmt.floor_wrap_lt f _ hpos).trans_eq hlen.symm
  have hj : (i + 1) % u.len < words.length := (Nat.mod_lt _ hpos).trans_eq hlen.symm
  have hkept := (tableLen_of_find h0 hf).trans hlen
  obtain ⟨hval, hfree⟩ := vibStep_of_reads (tableRead_word free hkept hf hi) (tableRead_word free hkept hf hj)
  exact ⟨_, _, List.getElem?_eq_getElem hi, List.getElem?_eq_getElem hj, hfree, hval⟩

/-- Settles O43: a tick of a loaded vibrato is `vibStep`, whose two indices are below the captured length. -/
theorem vibTickAndLast : Obligations.VibTickAndLast := by
  intro s n u hu f v
  refine ⟨⟨⟨rfl, rfl⟩, ⟨rfl, rfl⟩⟩, fun hempty => ?_, fun hloaded => ?_, fun words h0 hf hlen hpos => ?_, unitRead_present hu Vib.last⟩
  · exact unitDraw_unset hu (Vib.tick_unloaded _ hempty)
  · exact unitDraw_ok hu (Vib.tick_loaded _ hloaded)
  · exact vibStep_words s.free h0 hf hlen hpos

/-! ### Block control (R260-R263) -/

theorem exec_sysSetctx_refused {s : State}
    (h : 1 < s.iarg.toNat ∨ s.params.fmt.isFinite s.a0 = false ∨ s.params.fmt.lt 0#64 s.a0 = false) :
    exec .sysSetctx s = .next (s.after 0x8080#32) := by
  change execSysSetctx s = _
  unfold execSysSetctx
  rw [State.iargNat_eq, State.abandon_operand]
  split
  · rfl
  · next hidx =>
    refine if_pos ?_
    rw [Bool.not_eq_true', Bool.and_eq_false_iff]
    exact h.resolve_left hidx

/-- A value that is finite and > 0 goes to the register that IARG names. -/
theorem exec_sysSetctx_stored {s : State} (hidx : s.iarg.toNat ≤ 1) (hfin : s.params.fmt.isFinite s.a0 = true)
    (hpos : s.params.fmt.lt 0#64 s.a0 = true) :
    exec .sysSetctx s =
      .next (if s.iarg.toNat = 0 then { s.after 0#32 with sr := s.a0 } else { s.after 0#32 with kr := s.a0 }) := by
  have hval : (s.params.fmt.isFinite s.a0 && positive s.params.fmt s.a0) = true := Bool.and_eq_true_iff.mpr ⟨hfin, hpos⟩
  change execSysSetctx s = _
  rw [execSysSetctx, State.iargNat_eq, State.start_eq_after, if_neg (Nat.not_lt.mpr hidx), hval, if_neg (by decide)]
  split <;> rfl

/-- Settles O22: setctx has one refusal and one register for each index. -/
theorem sysCommands : Obligations.SysCommands := by
  intro s
  refine ⟨⟨rfl, rfl, rfl⟩, congrArg _ s.start_eq_after, rfl, exec_sysSetctx_refused, fun hfin hpos => ⟨fun h => ?_, fun h => ?_⟩⟩
  · rw [exec_sysSetctx_stored (by rw [h]; decide) hfin hpos, h]
    rfl
  · rw [exec_sysSetctx_stored (by rw [h]; decide) hfin hpos, h]
    rfl

/-! ### The values of a reset (R390) -/

theorem Hdr.reset_atReset : Hdr.reset.AtReset where
  mstate := rfl
  ctl := Hdr.reset_iCtl
  cache := Hdr.reset_iCtl
  counter := rfl
  minF := rfl

theorem Branch.reset_atReset (f : Fmt) : (Branch.reset f).AtReset f := ⟨rfl, rfl, rfl⟩

theorem Bar.reset_atReset (f : Fmt) : (Bar.reset f).AtReset f :=
  ⟨Hdr.reset_atReset, Branch.reset_atReset f, Branch.reset_atReset f, Branch.reset_atReset f, Branch.reset_atReset f, rfl, rfl,
    rfl, rfl, rfl, rfl, rfl⟩
theorem Clar.reset_atReset (f : Fmt) : (Clar.reset f).AtReset f := ⟨Hdr.reset_atReset, rfl, rfl, rfl, rfl, rfl, rfl⟩
theorem Flute.reset_atReset (f : Fmt) : (Flute.reset f).AtReset f :=
  ⟨Hdr.reset_atReset, rfl, rfl, rfl, rfl, rfl, rfl, rfl, rfl⟩
theorem Bowed.reset_atReset (f : Fmt) : (Bowed.reset f).AtReset f :=
  ⟨Hdr.reset_atReset, rfl, rfl, rfl, rfl, rfl, rfl, rfl, rfl, rfl⟩
theorem Brass.reset_atReset (f : Fmt) : (Brass.reset f).AtReset f := ⟨Hdr.reset_atReset, rfl, rfl, rfl, rfl, rfl, rfl⟩

theorem Units.resetAll_atReset (f : Fmt) (u : Units) : (u.resetAll f).AtReset f where
  dln := forall_mem_bank _ rfl
  dla := forall_mem_bank _ rfl
  dll := forall_mem_bank _ rfl
  biq := forall_mem_bank _ rfl
  opole := forall_mem_bank _ rfl
  ozero := forall_mem_bank _ rfl
  dcb := forall_mem_bank _ rfl
  adsr := forall_mem_bank _ rfl
  env := forall_mem_bank _ rfl
  bow := forall_mem_bank _ rfl
  reed := forall_mem_bank _ rfl
  noise := forall_mem_bank _ rfl
  vib := forall_mem_bank _ rfl

theorem Models.resetAll_atReset (f : Fmt) (m : Models) : (m.resetAll f).AtReset f where
  bar := forall_mem_bank _ (Bar.reset_atReset f)
  clar := forall_mem_bank _ (Clar.reset_atReset f)
  flute := forall_mem_bank _ (Flute.reset_atReset f)
  bowed := forall_mem_bank _ (Bowed.reset_atReset f)
  brass := forall_mem_bank _ (Brass.reset_atReset f)

/-- A soft reset keeps the number of instances of every class (log 3). -/
theorem State.softReset_sameCounts (s : State) : s.SameCounts s.softReset := by
  intro cls
  unfold State.instances
  split <;> simp [State.softReset, Units.resetAll, Models.resetAll]

/-- Settles O20: the command is a soft reset. -/
theorem sresetRestoresResetValues : Obligations.SresetRestoresResetValues :=
  ⟨rfl, fun s => ⟨s.softReset, rfl, Units.resetAll_atReset _ _, Models.resetAll_atReset _ _, s.softReset_sameCounts, rfl⟩⟩

end Sys2Proof.Machine

/-! PROOFS. 44_models_common.md: the control registers and the life cycle of the five models (R270, R272, R289), and the INITs that
fail (R274-R276). -/

namespace Sys2Proof

/-- The period factor 1.5 of FLUTE and its overblowing factor, as the statements write it (45_models.md R300, R332). -/
theorem Fmt.lit_fifteen_tenths (f : Fmt) : f.lit 15 10 = f.lit 3 2 := by cases f <;> decide +kernel

namespace Machine

section
variable {M : Type} {k : ModelKit M} {bank : State → List M} {put : State → List M → State}

/-! ### setctl, release and a model that is not running (R270, R272, R285, R289) -/

section
variable {set rel ren : Nat → Instr}

theorem setctlRule (hset : ∀ n s, exec (set n) s = modelSetctl k (bank s) put n s) : SetctlRule k bank put set := by
  intro s n m hm
  refine ⟨fun hbad => ?refused, fun hidx hfin => ?stored⟩ <;> rw [hset]
  case refused =>
    refine unitSet_refused hm ?_
    split
    · next hidx => exact Res.require_unmet (hbad.resolve_left (by rw [State.iargNat_eq] at hidx; omega))
    · rfl
  case stored => exact unitSet_ok hm ((dif_pos hidx).trans (Res.require_met hfin))

theorem modelRender_idle {n : Nat} {s : State} {m : M} (hm : (bank s)[n]? = some m) (hr : (k.hdr m).mstate ≠ .running) :
    modelRender k (bank s) put n s = .next (s.after 0x8040#32) := by
  unfold modelRender
  simp only [hm, if_neg hr, State.abandon_state]

theorem modelRelease_running {n : Nat} {s : State} {m : M} (hm : (bank s)[n]? = some m) (hr : (k.hdr m).mstate = .running) :
    modelRelease k (bank s) put n s
      = .next (put (s.after 0#32) ((bank s).set n (k.setHdr { k.hdr m with counter := 1 } m))) :=
  unitSet_ok hm (Res.require_met (decide_eq_true hr))

theorem releaseRule (hrel : ∀ n s, exec (rel n) s = modelRelease k (bank s) put n s)
    (hren : ∀ n s, exec (ren n) s = modelRender k (bank s) put n s) : ReleaseRule k bank put rel ren := by
  intro s n m hm
  refine ⟨fun hr => ?running, fun hr => ⟨?release, ?render⟩⟩
  case running => rw [hrel, modelRelease_running hm hr]
  case release => rw [hrel]; exact unitSet_unset hm (Res.require_unmet (decide_eq_false hr))
  case render => rw [hren, modelRender_idle hm hr]

end

/-! ### The checks of INIT (R274-R276) -/

/-- The lowest frequency and its warning, as the statements write them (R274). -/
theorem lowestFrequency_ctx (s : State) (h : Hdr) (fmax : Flt) :
    lowestFrequency s.ctx h fmax = (noteMinF s h fmax, noteWarn s h) := by
  have hfloor : (if positive s.ctx.f (h.c ctlLowFreq) then (h.c ctlLowFreq, 0)
      else if positive s.ctx.f (h.c ctlFreq) then (h.c ctlFreq, 0) else (s.ctx.p.floorHz, warnFloor))
      = (noteFloor s h, noteWarn s h) := by
    change (if s.params.fmt.lt 0#64 (h.ctl.get 2) then (h.ctl.get 2, 0#32)
      else if s.params.fmt.lt 0#64 (h.ctl.get 1) then (h.ctl.get 1, 0#32) else (s.params.floorHz, 0x2#32)) = _
    unfold noteFloor noteWarn
    cases s.params.fmt.lt 0#64 (h.ctl.get 2)
    case true => rfl
    case false => cases s.params.fmt.lt 0#64 (h.ctl.get 1) <;> rfl
  unfold lowestFrequency
  rw [hfloor]
  rfl

theorem contextSet_iff (s : State) : ContextSet s ↔ (!(positive s.ctx.f s.ctx.sr && positive s.ctx.f s.ctx.kr)) = false := by
  rw [Bool.not_eq_false', Bool.and_eq_true]
  rfl

section
variable {s : State} {m : M} {fx : Fx} {km fmax : Flt}

/-- The check of INIT that asks for a table, where the id names none (R276). -/
theorem tablePresent_iff :
    TablePresent s (k.hdr m)
      ↔ (decide (tableIdOf k s.ctx m < 0) || decide (tableLen s.ctx.tables (tableIdOf k s.ctx m).toNat = 0)) = false := by
  rw [Bool.or_eq_false_iff, decide_eq_false_iff_not, decide_eq_false_iff_not, not_lt]
  rfl

theorem initNote_unset (hctx : ¬ ContextSet s) : initNote k s.ctx m fx = .raise 0 errState := by
  rw [contextSet_iff, Bool.not_eq_false] at hctx
  unfold initNote
  rw [if_pos hctx]

theorem initNote_notable (hctx : ContextSet s) (hneeds : k.needsTable = true) (htab : ¬ TablePresent s (k.hdr m)) :
    initNote k s.ctx m fx = .raise 0 errNotable := by
  rw [contextSet_iff] at hctx
  rw [tablePresent_iff, Bool.not_eq_false] at htab
  unfold initNote
  rw [hctx, hneeds, htab]
  rfl

/-- An INIT whose context is set, whose table is present and whose request is finite goes on to the size of its request. -/
theorem initNote_checked (hctx : ContextSet s) (htab : k.needsTable = true → TablePresent s (k.hdr m))
    (hfin : s.params.fmt.isFinite
      (s.params.fmt.div (s.params.fmt.mul (k.km s.params) s.sr) (noteMinF s (k.hdr m) (k.fmax s.ctx))) = true) :
    let minF := noteMinF s (k.hdr m) (k.fmax s.ctx)
    let q := noteRequest s (k.km s.params) minF
    let r := startNote k s.ctx q.toNat (tableIdOf k s.ctx m).toNat minF m fx
    initNote k s.ctx m fx =
      if (s.params.maxCap : Int) < q + 1 then .raise (noteWarn s (k.hdr m)) errOperand
      else if r.2.raised ≠ 0 then .raise (noteWarn s (k.hdr m) ||| r.2.warns) r.2.raised
      else .ok (noteWarn s (k.hdr m) ||| r.2.warns) r.1 := by
  intro minF q r
  rw [contextSet_iff] at hctx
  have htab : (k.needsTable
      && (decide (tableIdOf k s.ctx m < 0) || decide (tableLen s.ctx.tables (tableIdOf k s.ctx m).toNat = 0))) = false :=
    Bool.and_eq_false_imp.mpr fun hn => tablePresent_iff.mp (htab hn)
  have hreq : bufferRequest s.ctx (k.km s.ctx.p) minF = some q := if_pos hfin
  unfold initNote
  rw [hctx, htab, lowestFrequency_ctx]
  simp only [Bool.false_eq_true, if_false, hreq, minF, q, r]
  rfl

end

section
variable {n : Nat} {s : State} {m : M} (hm : (bank s)[n]? = some m)
include hm

/-- A failing INIT leaves the instance FAILED (R276). -/
theorem modelInit_raise {w e : U32} (ho : initNote k s.ctx m (s.fx true) = .raise w e) :
    modelInit k (bank s) put n s =
      .next (put (s.after (w ||| e ||| 0x8000#32)) ((bank s).set n (k.setHdr { k.hdr m with mstate := .failed } m))) := by
  unfold modelInit
  simp only [hm, ho, State.abandon_eq_after]

theorem modelInit_ok {w : U32} {m' : M} (ho : initNote k s.ctx m (s.fx true) = .ok w m') :
    modelInit k (bank s) put n s = .next (put (s.after w) ((bank s).set n m')) := by
  unfold modelInit
  simp only [hm, ho, State.start_warn_eq_after]

end

theorem initFailsRule {init : Nat → Instr} {km fmax : State → Flt}
    (hinit : ∀ n s, exec (init n) s = modelInit k (bank s) put n s) (hkm : ∀ s, km s = k.km s.params)
    (hfmax : ∀ s, fmax s = k.fmax s.ctx) : InitFailsRule k bank put init k.needsTable km fmax := by
  intro s n m hm
  rw [hinit, hkm, hfmax]
  refine ⟨fun hctx => ?unset, fun hctx hneeds htab => ?notable, fun hctx htab hfin hlong => ?tooLong⟩
  case unset => exact modelInit_raise hm (initNote_unset hctx)
  case notable => exact modelInit_raise hm (initNote_notable hctx hneeds htab)
  case tooLong =>
    rw [modelInit_raise hm ((initNote_checked hctx htab hfin).trans (if_pos hlong)), BitVec.or_assoc]
    rfl

end

/-- Settles O47: `initFailsRule` with the period factors and the FMAX of each model. -/
theorem initFailures : Obligations.InitFailures :=
  ⟨initFailsRule (fun _ _ => rfl) (fun _ => rfl) fun _ => rfl,
    initFailsRule (fun _ _ => rfl) (fun _ => rfl) fun s => (windFmax_ctx s _).symm,
    initFailsRule (fun _ _ => rfl) (fun s => (Fmt.lit_fifteen_tenths s.params.fmt).symm) fun s => (windFmax_ctx s _).symm,
    initFailsRule (fun _ _ => rfl) (fun _ => rfl) fun s => (windFmax_ctx s _).symm,
    initFailsRule (fun _ _ => rfl) (fun _ => rfl) fun s => (windFmax_ctx s _).symm⟩

end Machine

/-- Settles O45: `setctlRule` at the five banks. -/
theorem modelSetctl : Obligations.ModelSetctl :=
  ⟨fun _ => ⟨⟨rfl, rfl⟩, ⟨rfl, rfl⟩, ⟨rfl, rfl⟩, ⟨rfl, rfl⟩, ⟨rfl, rfl⟩⟩,
    Machine.setctlRule fun _ _ => rfl, Machine.setctlRule fun _ _ => rfl, Machine.setctlRule fun _ _ => rfl,
    Machine.setctlRule fun _ _ => rfl, Machine.setctlRule fun _ _ => rfl⟩

/-- Settles O46: `releaseRule` at the five banks. -/
theorem modelRelease : Obligations.ModelRelease :=
  ⟨fun _ => ⟨⟨rfl, rfl⟩, ⟨rfl, rfl⟩, ⟨rfl, rfl⟩, ⟨rfl, rfl⟩, ⟨rfl, rfl⟩⟩,
    Machine.releaseRule (fun _ _ => rfl) fun _ _ => rfl, Machine.releaseRule (fun _ _ => rfl) fun _ _ => rfl,
    Machine.releaseRule (fun _ _ => rfl) fun _ _ => rfl, Machine.releaseRule (fun _ _ => rfl) fun _ _ => rfl,
    Machine.releaseRule (fun _ _ => rfl) fun _ _ => rfl⟩

end Sys2Proof

/-! PROOFS. 45_models.md: the control update of each model as what it makes of each field (R304, R306-R309, R322, R323, R332, R333,
R342, R343, R349, R350; 44_models_common.md R284). -/

namespace Sys2Proof.Machine

section
variable (c : Ctx) (all : Bool) (fx : Fx)

/-- The tuning of the bar, where FREQ changed (R306). -/
def Bar.retune (m : Bar) : Bar × Fx :=
  let f := freqOf c m.hdr (barFmax c)
  if m.hdr.changed all ctlFreq then m.tune c f.1 (fx.warn f.2) else (m, fx)

/-- The lag of the clarinet's bore, where FREQ changed (R322). -/
def Clar.retune (m : Clar) : Dll × Fx :=
  let f := freqOf c m.hdr (windFmax c.p.clar.fmax c)
  let lag := c.f.sub (c.f.div (c.f.mul c.p.clar.lagFactor c.sr) f.1) c.p.clar.lagOffset
  if m.hdr.changed all ctlFreq then (fx.warn f.2).absorb m.dl (m.dl.setdel c.f lag) else (m.dl, fx)

/-- The tuning of the flute, where FREQ or JETRATIO changed (R332). -/
def Flute.retune (m : Flute) : Flute × Fx :=
  if m.hdr.changed all ctlFreq || m.hdr.changed all ctlJetRatio then m.tune c fx else (m, fx)

/-- The tuning of the bowed string, where FREQ or BETA changed (R342). -/
def Bowed.retune (m : Bowed) : Bowed × Fx :=
  if m.hdr.changed all ctlFreq || m.hdr.changed all ctlBeta then m.tune c fx else (m, fx)

/-- The tuning of the brass, where FREQ or LIPTENSION changed (R350). -/
def Brass.retune (m : Brass) : Brass × Fx :=
  if m.hdr.changed all ctlFreq || m.hdr.changed all ctlLipTension then m.tune c all fx else (m, fx)

/-- A vibrato given the frequency VIBFREQ, where that changed (44_models_common.md R291). -/
def Vib.retune (h : Hdr) (u : Vib) : Vib × Fx :=
  if h.changed all ctlVibFreq then fx.absorb u (u.setfreq c (h.c ctlVibFreq)) else (u, fx)

theorem Bar.recompute_eq (m : Bar) :
    let h := m.hdr
    let t := m.retune c all fx
    m.recompute c all fx =
      ({ m with
         k := if h.changed all ctlPosition then (t.1.place c (h.c ctlPosition)).k else t.1.k
         bw := if h.changed all ctlBowPress then
             ⟨c.f.sub c.p.bar.slopeBase (c.f.mul c.p.bar.slopeStep (h.c ctlBowPress))⟩
           else m.bw
         maxVel := if h.changed all ctlAmp then c.f.add c.p.bar.velBase (c.f.mul c.p.bar.velStep (ampN c h)) else m.maxVel
         bowTarg := if h.changed all ctlBowTargPos then
             c.f.add m.bowTarg (c.f.mul c.p.bar.targStep (c.f.sub (h.c ctlBowTargPos) m.lastTP))
           else m.bowTarg
         lastTP := if h.changed all ctlBowTargPos then h.c ctlBowTargPos else m.lastTP }, t.2) := by
  unfold Bar.recompute Bar.retune
  dsimp only
  split_ifs <;> rfl

theorem Clar.recompute_eq (m : Clar) :
    let h := m.hdr
    let t := m.retune c all fx
    let v := m.vb.retune c all t.2 h
    m.recompute c all fx =
      ({ m with
         dl := t.1
         env := if h.changed all ctlAmp && decide (m.env.phase = .attack) then
             m.env.settarget (c.f.add c.p.clar.breathBase (c.f.mul c.p.clar.breathStep (ampN c h)))
           else m.env
         vb := v.1 }, v.2) := by
  unfold Clar.recompute Clar.retune Vib.retune
  dsimp only
  split_ifs <;> rfl

theorem Flute.recompute_eq (m : Flute) :
    let h := m.hdr
    let t := m.retune c all fx
    let v := m.vb.retune c all t.2 h
    m.recompute c all fx =
      ({ m with
         bore := t.1.bore
         jet := t.1.jet
         maxP := if h.changed all ctlAmp then
             c.f.div (c.f.add c.p.flute.pressBase (c.f.mul c.p.flute.pressStep (ampN c h))) c.p.flute.pressDiv
           else m.maxP
         vb := v.1 }, v.2) := by
  unfold Flute.recompute Flute.retune Vib.retune
  dsimp only
  split_ifs <;> rfl

theorem Bowed.recompute_eq (m : Bowed) :
    let h := m.hdr
    let t := m.retune c all fx
    let v := m.vb.retune c all t.2 h
    m.recompute c all fx =
      ({ m with
         nut := t.1.nut
         bridge := t.1.bridge
         base := t.1.base
         bw := if h.changed all ctlBowPress then
             ⟨c.f.sub c.p.bowed.slopeBase (c.f.mul c.p.bowed.slopeStep (h.c ctlBowPress))⟩
           else m.bw
         maxVel := if h.changed all ctlAmp then c.f.add c.p.bowed.velBase (c.f.mul c.p.bowed.velStep (ampN c h)) else m.maxVel
         vb := v.1 }, v.2) := by
  unfold Bowed.recompute Bowed.retune Vib.retune
  dsimp only
  split_ifs <;> rfl

theorem Brass.recompute_eq (m : Brass) :
    let h := m.hdr
    let t := m.retune c all fx
    let v := m.vb.retune c all t.2 h
    m.recompute c all fx =
      ({ m with
         bore := t.1.bore
         lip := t.1.lip
         maxP := if h.changed all ctlAmp then ampN c h else m.maxP
         vb := v.1 }, v.2) := by
  unfold Brass.recompute Brass.retune Vib.retune
  dsimp only
  split_ifs <;> rfl

end

end Sys2Proof.Machine

/-! PROOFS. 44_models_common.md and 45_models.md: an INIT that completes (R276, R287, R294), model by model (R303-R309, R321-R323,
R331-R333, R341-R343, R349, R350). -/

namespace Sys2Proof.Fmt

section
variable {f : Fmt} {x y : Flt}

/-- A number > 0 is no zero and has no minus sign. -/
theorem pos_iff : f.lt 0#64 x = true ↔ f.isNaN x = false ∧ f.sign x = false ∧ f.mag x ≠ 0 := by
  have hkey : 0 < f.key x ↔ f.sign x = false ∧ f.mag x ≠ 0 := by
    unfold key
    cases f.sign x
    · simp [Nat.pos_iff_ne_zero]
    · simp
  rw [lt_iff, ← hkey]
  simp [show f.key 0#64 = 0 from f.key_zero, show f.isNaN 0#64 = false from f.isNaN_zero]

/-- The product of two numbers > 0 is a number without a minus sign, also where it overflows or underflows. -/
theorem mul_unsigned_of_pos (hx : f.lt 0#64 x = true) (hy : f.lt 0#64 y = true) :
    f.isNaN (f.mul x y) = false ∧ f.sign (f.mul x y) = false := by
  obtain ⟨hxn, hxs, hx0⟩ := pos_iff.mp hx
  obtain ⟨hyn, hys, hy0⟩ := pos_iff.mp hy
  obtain ⟨m, hm, hmul⟩ := mul_eq_pack hxn hyn (fun _ => hy0) fun _ => hx0
  rw [hmul, isNaN_pack hm, sign_pack, hxs, hys]
  exact ⟨rfl, rfl⟩

/-- A number without a minus sign is not < 0. -/
theorem lt_zero_of_unsigned (hs : f.sign x = false) : f.lt x 0#64 = false := by
  have hkey : 0 ≤ f.key x := by
    unfold key
    rw [hs]
    exact Int.natCast_nonneg _
  rw [← Bool.not_eq_true, lt_iff, show f.key 0#64 = 0 from f.key_zero]
  exact fun ⟨_, _, hlt⟩ => absurd hlt (not_lt.mpr hkey)

end

end Sys2Proof.Fmt

namespace Sys2Proof.Machine

/-! ### Envelope times and rates (42_envelopes.md R211, R213) -/

section
variable {s : State}

theorem basis_pos (hctx : ContextSet s) : s.params.fmt.lt 0#64 s.ctx.basis = true := by
  unfold Ctx.basis
  split
  · exact hctx.2
  · exact hctx.1

theorem rateOf_ctx (s : State) (t : Flt) : s.ctx.rateOf t = noteRate s t := by
  unfold Ctx.rateOf Ctx.basis noteRate
  simp only [State.ctx_f, State.ctx_p, State.ctx_sr, State.ctx_kr]
  cases s.params.rateBasis <;> rfl

/-- `RateOf` answers a number without a minus sign: 1, or the reciprocal of a time > 0 times a basis > 0. -/
theorem noteRate_unsigned (hctx : ContextSet s) (t : Flt) :
    s.params.fmt.isNaN (noteRate s t) = false ∧ s.params.fmt.sign (noteRate s t) = false := by
  rw [← rateOf_ctx]
  unfold Ctx.rateOf
  split
  · next ht =>
    obtain ⟨hn, hs⟩ := Fmt.mul_unsigned_of_pos ht (basis_pos hctx)
    exact Fmt.reciprocal_unsigned hn hs
  · exact ⟨Fmt.isNaN_one _, Fmt.sign_one _⟩

/-- A rate taken from a time is stored as it is, without a warning. -/
theorem rateOperand_rateOf (hctx : ContextSet s) (t : Flt) :
    rateOperand s.params.fmt (s.ctx.rateOf t) = .ok 0 (noteRate s t) := by
  obtain ⟨hn, hs⟩ := noteRate_unsigned hctx t
  rw [rateOf_ctx, rateOperand_number hn, Fmt.lt_zero_of_unsigned hs]
  rfl

end

/-! ### What a private unit that raises nothing leaves of the effects -/

theorem Fx.warn_none (fx : Fx) : fx.warn 0 = fx := by
  unfold Fx.warn
  split
  · rfl
  · rw [show fx.warns ||| (0 : U32) = fx.warns from BitVec.or_zero]

theorem Fx.warn_warn (fx : Fx) (w w' : U32) : (fx.warn w).warn w' = fx.warn (w ||| w') := by
  by_cases hs : fx.stopped = true
  · simp [Fx.warn, hs]
  · have hs' : ¬ ({ fx with warns := fx.warns ||| w } : Fx).stopped = true := hs
    simp only [Fx.warn, if_neg hs, if_neg hs', BitVec.or_assoc]

theorem Fx.absorb_done {α : Type} (fx : Fx) (u a : α) : fx.absorb u (.ok 0 a) = (a, fx) := by
  rw [Fx.absorb_ok, Fx.warn_none]

theorem State.fx_warn (s : State) (w : U32) : (s.fx true).warn w = { s.fx true with warns := w } := by
  change ({ s.fx true with warns := 0#32 ||| w } : Fx) = _
  rw [BitVec.zero_or]

/-! ### Private lines, vibratos and envelopes at INIT -/

section
variable {p : Params} {q : Nat} (hcap : q + 1 ≤ p.maxCap)
include hcap

theorem Dln.cfg_sized : ∃ d, Dln.cfg p q = .ok 0 d ∧ 0 < d.cap := ⟨_, Dln.cfg_ok hcap, Nat.succ_pos q⟩
theorem Dla.cfg_sized (u : Dla) (hq : 2 ≤ q) : ∃ d, u.cfg p q = .ok 0 d ∧ 0 < d.cap := ⟨_, Dla.cfg_ok u hq hcap, Nat.succ_pos q⟩
theorem Dll.cfg_sized (u : Dll) (hq : 1 ≤ q) : ∃ d, u.cfg p q = .ok 0 d ∧ 0 < d.cap := ⟨_, Dll.cfg_ok u hq hcap, Nat.succ_pos q⟩

end

section
variable {f : Fmt} {lag : Flt} (hn : f.isNaN lag = false)
include hn

theorem Dln.setdel_ok {u : Dln} (hc : 0 < u.cap) : ∃ w u', u.setdel f lag = .ok w u' := ⟨_, _, setLag_number hc hn⟩
theorem Dla.setdel_ok {u : Dla} (hc : 0 < u.cap) : ∃ w u', u.setdel f lag = .ok w u' := ⟨_, _, setLag_number hc hn⟩
theorem Dll.setdel_ok {u : Dll} (hc : 0 < u.cap) : ∃ w u', u.setdel f lag = .ok w u' := ⟨_, _, setLag_number hc hn⟩

end

/-- A fresh vibrato given a table: its rate, which the first setfreq replaces, is not of interest. -/
theorem Vib.settab_reset {c : Ctx} {id : Nat} (h : tableLen c.tables id ≠ 0) :
    ∃ rate, Vib.reset.settab c id = .ok 0 ⟨BitVec.ofNat 32 id, tableLen c.tables id, 0#64, rate, 0#64, 0#64⟩ :=
  ⟨_, Vib.settab_present Vib.reset h⟩

/-- The ADSR a model strikes at INIT (45_models.md R303, R331, R341, R349). -/
theorem Adsr.strike_reset {s : State} {t : AdsrTimes} (hctx : ContextSet s) (ht : TimesLegal s.params.fmt t) (fx : Fx) :
    Adsr.reset.strike s.ctx t fx = (struck s t, fx) := by
  obtain ⟨ha, hd, hs, hr⟩ := ht
  have hnum : (s.ctx.f.isNaN t.attack || s.ctx.f.isNaN t.decay || s.ctx.f.isNaN t.sustain || s.ctx.f.isNaN t.release) = false := by
    rw [State.ctx_f, ha, hd, hs, hr]
    rfl
  have hset := Adsr.settimes_ok (c := s.ctx) Adsr.reset (basis_pos hctx) hnum
  simp only [Adsr.strike, hset, Fx.absorb_done, rateOf_ctx]
  rfl

theorem freqOf_ctx (s : State) (h : Hdr) (fmax : Flt) :
    freqOf s.ctx h fmax =
      (noteFreq s.params.fmt (h.ctl.get 1) h.minF fmax, noteClamp s.params.fmt (h.ctl.get 1) h.minF fmax) := by
  unfold freqOf noteFreq noteClamp
  simp only [Hdr.c, State.ctx_f, Bool.or_eq_true]
  rfl

/-- See `freqOf_ctx`: the frequency CLAR, FLUTE, BOWED and BRASS tune to (R294). -/
theorem freqOf_wind (s : State) (h : Hdr) (b : FmaxConst) :
    freqOf s.ctx h (windFmax b s.ctx) =
      (noteFreq s.params.fmt (h.ctl.get 1) h.minF (noteFmax s b), noteClamp s.params.fmt (h.ctl.get 1) h.minF (noteFmax s b)) := by
  rw [windFmax_ctx, freqOf_ctx]

/-! ### INIT past its checks (R276, R287) -/

/-- A model keeps its header in a field of its own. -/
structure ModelKit.HasHdr {M : Type} (k : ModelKit M) : Prop where
  hdr_setHdr : ∀ h m, k.hdr (k.setHdr h m) = h
  setHdr_setHdr : ∀ h h' m, k.setHdr h (k.setHdr h' m) = k.setHdr h m
  setHdr_hdr : ∀ m, k.setHdr (k.hdr m) m = m

theorem barKit_hasHdr : barKit.HasHdr := ⟨fun _ _ => rfl, fun _ _ _ => rfl, fun _ => rfl⟩
theorem clarKit_hasHdr : clarKit.HasHdr := ⟨fun _ _ => rfl, fun _ _ _ => rfl, fun _ => rfl⟩
theorem fluteKit_hasHdr : fluteKit.HasHdr := ⟨fun _ _ => rfl, fun _ _ _ => rfl, fun _ => rfl⟩
theorem bowedKit_hasHdr : bowedKit.HasHdr := ⟨fun _ _ => rfl, fun _ _ _ => rfl, fun _ => rfl⟩
theorem brassKit_hasHdr : brassKit.HasHdr := ⟨fun _ _ => rfl, fun _ _ _ => rfl, fun _ => rfl⟩

/-- The header around which INIT puts a model at reset: minF is stored and the i-rate controls are read (R274, R276; log 30). -/
def freshHdr (minF : Flt) (h : Hdr) : Hdr := { h with minF := minF, iCtl := h.ctl }

/-- The header INIT leaves (R276, R280, R287). -/
def startedHdr (c : Ctx) (kRate : List (Fin 16)) (h : Hdr) : Hdr :=
  { h.refresh kRate with counter := counterStart c h, mstate := .running }

section
variable {M : Type} {k : ModelKit M} {m a b r : M}

/-- A note whose private units raise nothing: `a`, `b` and `r` are the model configured, initialised and tuned. -/
theorem startNote_of (hk : k.HasHdr) {c : Ctx} {n id : Nat} {minF : Flt} {fx fx' : Fx}
    (ha : k.configure c n id (k.fresh c.f (freshHdr minF (k.hdr m))) fx = (a, fx)) (hb : k.initModel c a fx = (b, fx))
    (hr : k.recompute c true b fx = (r, fx')) (hhdr : k.hdr r = freshHdr minF (k.hdr m)) :
    startNote k c n id minF m fx = (k.setHdr (startedHdr c k.kRate (freshHdr minF (k.hdr m))) r, fx') := by
  unfold freshHdr at ha
  simp only [startNote, controlUpdate, ha, hb, hr, hhdr, hk.hdr_setHdr, hk.setHdr_setHdr]
  rfl

variable {bank : State → List M} {put : State → List M → State} {init : Nat → Instr} {s : State} {n q : Nat} {fmax km : Flt}

theorem initNote_started {fx fx' : Fx} {m' : M} (hready : InitReady k s m k.needsTable (k.km s.params) (k.fmax s.ctx) q)
    (hstart : startNote k s.ctx q (tableIdOf k s.ctx m).toNat (noteMinF s (k.hdr m) (k.fmax s.ctx)) m fx = (m', fx'))
    (h0 : fx'.raised = 0) : initNote k s.ctx m fx = .ok (noteWarn s (k.hdr m) ||| fx'.warns) m' := by
  obtain ⟨hctx, htab, hfin, hq, hcap⟩ := hready
  rw [initNote_checked hctx htab hfin, hq, Int.toNat_natCast, hstart, if_neg (by omega), if_neg (not_not.mpr h0)]

/-- An INIT that may go on to its private units, and whose private units raise nothing, starts the note. -/
theorem started_of (hk : k.HasHdr) (hinit : ∀ n s, exec (init n) s = modelInit k (bank s) put n s)
    (hm : (bank s)[n]? = some m) (hkm : km = k.km s.params) (hfmax : fmax = k.fmax s.ctx)
    (hready : InitReady k s m k.needsTable km fmax q) {h : Hdr} (hh : h = freshHdr (noteMinF s (k.hdr m) fmax) (k.hdr m))
    {lags : U32}
    (ha : k.configure s.ctx q (s.params.fmt.trunc (h.ctl.get 5)).toNat (k.fresh s.params.fmt h) (s.fx true) = (a, s.fx true))
    (hb : k.initModel s.ctx a (s.fx true) = (b, s.fx true))
    (hr : k.recompute s.ctx true b (s.fx true) =
      (r, (s.fx true).warn (noteClamp s.params.fmt (h.ctl.get 1) h.minF fmax ||| lags))) (hhdr : k.hdr r = h) :
    Started k bank put init k.kRate s n m (k.setHdr (startedHdr s.ctx k.kRate h) r) fmax lags := by
  subst hkm hfmax hh
  have hok := initNote_started (fx := s.fx true) hready (startNote_of hk ha hb hr hhdr) rfl
  have hget := Hdr.refresh_cache_get (freshHdr (noteMinF s (k.hdr m) (k.fmax s.ctx)) (k.hdr m)) k.kRate
  unfold Started
  simp only [hk.hdr_setHdr]
  refine ⟨?_, rfl, rfl, rfl, rfl, fun x hx => (hget x).trans (if_pos hx), rfl⟩
  rw [hinit, modelInit_ok hm hok, State.fx_warn, BitVec.or_assoc]
  rfl

end

end Sys2Proof.Machine

/-! PROOFS. 45_models.md: the parts of an INIT that raise nothing, and the notes they start (R303-R309, R321-R323, R331-R333, R341-R343,
R349, R350). -/

namespace Sys2Proof.Machine

section
variable {s : State} {n id : Nat} {fx : Fx} {fr : Flt} {clamp w w' : U32}

/-- The vibrato in a forced control update (44_models_common.md R284, R291). -/
theorem Vib.retune_all {h : Hdr} (u : Vib) (hctx : ContextSet s) (hhz : s.params.fmt.isFinite (h.ctl.get 6) = true) :
    u.retune s.ctx true fx h = (u.at s (h.ctl.get 6), fx) := by
  have hset : u.setfreq s.ctx (h.c ctlVibFreq) = .ok 0 (u.at s (h.ctl.get 6)) := Vib.setfreq_ok (c := s.ctx) u hctx.1 hhz
  simp only [Vib.retune, Hdr.changed_all, if_true, hset, Fx.absorb_done]

/-! ### BAR (R303-R309) -/

section
variable {b : Branch} {ratio : Flt}

theorem Branch.configure_ok {d : Dln} (hd : Dln.cfg s.params n = .ok 0 d) :
    b.configure s.ctx n fx = ({ b with d := d }, fx) := by
  simp only [Branch.configure, State.ctx_p, hd, Fx.absorb_done]

/-- A branch tuned to `fr`, where its lag, its frequency and its pole radius are numbers: every field of its biquad is set (R306). -/
theorem Branch.tune_ok {rad : Flt} {d : Dln}
    (hrad : rad = s.params.fmt.sub s.params.fmt.one
      (s.params.fmt.div (s.params.fmt.mul (s.params.fmt.mul fr ratio) s.params.fmt.pi) s.sr))
    (hd : b.d.setdel s.params.fmt (s.params.fmt.div (s.params.fmt.div s.sr fr) ratio) = .ok w d)
    (hctx : ContextSet s) (hf : s.params.fmt.isFinite (s.params.fmt.mul fr ratio) = true)
    (hr : s.params.fmt.isFinite rad = true) :
    b.tune s.ctx fr ratio fx =
      (⟨d, ⟨s.params.fmt.mul (s.params.fmt.mul (s.params.fmt.lit 2 1) rad)
              (s.params.fmt.cos s.params.libm (s.params.fmt.div (s.params.fmt.mul s.params.fmt.twoPi (s.params.fmt.mul fr ratio)) s.sr)),
            s.params.fmt.neg (s.params.fmt.mul rad rad), 0#64, s.params.fmt.lit (-1) 1,
            s.params.fmt.div (s.params.fmt.sub s.params.fmt.one (s.params.fmt.mul rad rad)) (s.params.fmt.lit 2 1),
            0#64, 0#64, 0#64, 0#64⟩, b.gain⟩, fx.warn w) := by
  have hq := Biq.setfr_ok (c := s.ctx) b.q hctx.1 hf hr
  simp only [Branch.tune, State.ctx_f, State.ctx_sr] at hq ⊢
  simp only [hd, ← hrad, hq, Fx.absorb_ok, Fx.warn_none]
  rfl

end

section
variable {m : Bar}

theorem Bar.configure_ok {d : Dln} (id : Nat) (hd : Dln.cfg s.params n = .ok 0 d) :
    m.configure s.ctx n id fx =
      ({ m with k := ⟨{ m.k.k0 with d := d }, { m.k.k1 with d := d }, { m.k.k2 with d := d }, { m.k.k3 with d := d }⟩ }, fx) := by
  simp only [Bar.configure, Branch.configure_ok hd]

theorem Bar.initModel_ok (had : m.ad = Adsr.reset) (hctx : ContextSet s) (ht : TimesLegal s.params.fmt s.params.bar.times) :
    m.initModel s.ctx fx =
      ({ m with ad := struck s s.params.bar.times, bowTarg := 0#64, bowVel := 0#64, vEst := 0#64, lastTP := m.hdr.ctl.get 11 },
        fx) := by
  simp only [Bar.initModel, State.ctx_p, had, Adsr.strike_reset hctx ht]
  rfl

theorem Bar.tune_ok {b0 b1 b2 b3 : Branch} {w0 w1 w2 w3 : U32}
    (h0 : ∀ fx, m.k.k0.tune s.ctx fr (s.params.fmt.lit 1 1) fx = (b0, fx.warn w0))
    (h1 : ∀ fx, m.k.k1.tune s.ctx fr (s.params.fmt.lit 2756 1000) fx = (b1, fx.warn w1))
    (h2 : ∀ fx, m.k.k2.tune s.ctx fr (s.params.fmt.lit 5404 1000) fx = (b2, fx.warn w2))
    (h3 : ∀ fx, m.k.k3.tune s.ctx fr (s.params.fmt.lit 8933 1000) fx = (b3, fx.warn w3)) :
    m.tune s.ctx fr fx = ({ m with k := ⟨b0, b1, b2, b3⟩ }, fx.warn (w0 ||| w1 ||| w2 ||| w3)) := by
  simp only [Bar.tune, barRatios, State.ctx_f, h0, h1, h2, h3, Fx.warn_warn]

/-- The forced control update of BAR. -/
theorem Bar.recompute_all {k' : Quad Branch} (hf : freqOf s.ctx m.hdr (barFmax s.ctx) = (fr, clamp))
    (htune : ∀ fx, m.tune s.ctx fr fx = ({ m with k := k' }, fx.warn w)) :
    m.recompute s.ctx true fx =
      ({ m with
         k := (Bar.place s.ctx (m.hdr.ctl.get 10) { m with k := k' }).k
         bw := ⟨s.params.fmt.sub s.params.bar.slopeBase (s.params.fmt.mul s.params.bar.slopeStep (m.hdr.ctl.get 9))⟩
         maxVel := s.params.fmt.add s.params.bar.velBase
           (s.params.fmt.mul s.params.bar.velStep (s.params.fmt.mul (m.hdr.ctl.get 0) s.params.ampRscale))
         bowTarg := s.params.fmt.add m.bowTarg
           (s.params.fmt.mul s.params.bar.targStep (s.params.fmt.sub (m.hdr.ctl.get 11) m.lastTP))
         lastTP := m.hdr.ctl.get 11 }, fx.warn (clamp ||| w)) := by
  have hretune : m.retune s.ctx true fx = ({ m with k := k' }, fx.warn (clamp ||| w)) := by
    simp only [Bar.retune, Hdr.changed_all, if_true, hf, htune, Fx.warn_warn]
  simp only [Bar.recompute_eq, hretune, Hdr.changed_all, if_true]
  rfl

end

/-! ### CLAR (R321-R323) -/

section
variable {m : Clar}

theorem Clar.configure_ok {d : Dll} {v : Vib} (hd : m.dl.cfg s.params n = .ok 0 d) (hv : m.vb.settab s.ctx id = .ok 0 v) :
    m.configure s.ctx n id fx = ({ m with dl := d, vb := v }, fx) := by
  simp only [Clar.configure, State.ctx_p, hd, hv, Fx.absorb_done]

theorem Clar.initModel_ok (hctx : ContextSet s) :
    m.initModel s.ctx fx =
      ({ m with
         rd := (m.rd.setoffset s.params.clar.reedOffset).setslope s.params.clar.reedSlope
         oz := (m.oz.setgain s.params.fmt s.params.clar.reflGain).setcoef s.params.fmt s.params.clar.reflCoef
         env := { m.env.keyon s.params.fmt with rate := noteRate s (m.hdr.ctl.get 9) } }, fx) := by
  have hrate : (m.env.keyon s.ctx.f).setrate s.ctx.f (s.ctx.rateOf (m.hdr.c ctlAttack)) =
      .ok 0 { m.env.keyon s.params.fmt with rate := noteRate s (m.hdr.ctl.get 9) } :=
    congrArg (Res.map _) (rateOperand_rateOf hctx _)
  simp only [Clar.initModel, hrate, Fx.absorb_done]
  rfl

/-- The forced control update of CLAR, where its lag and its vibrato frequency are numbers. -/
theorem Clar.recompute_all {d : Dll} (hf : freqOf s.ctx m.hdr (windFmax s.params.clar.fmax s.ctx) = (fr, clamp))
    (hd : m.dl.setdel s.params.fmt (s.params.fmt.sub
      (s.params.fmt.div (s.params.fmt.mul s.params.clar.lagFactor s.sr) fr) s.params.clar.lagOffset) = .ok w d)
    (hctx : ContextSet s) (hhz : s.params.fmt.isFinite (m.hdr.ctl.get 6) = true) :
    m.recompute s.ctx true fx =
      ({ m with
         dl := d
         env := if m.env.phase = .attack then
             m.env.settarget (s.params.fmt.add s.params.clar.breathBase
               (s.params.fmt.mul s.params.clar.breathStep (s.params.fmt.mul (m.hdr.ctl.get 0) s.params.ampRscale)))
           else m.env
         vb := m.vb.at s (m.hdr.ctl.get 6) }, fx.warn (clamp ||| w)) := by
  have htune : m.retune s.ctx true fx = (d, fx.warn (clamp ||| w)) := by
    simp only [Clar.retune, Hdr.changed_all, if_true, State.ctx_f, State.ctx_p, State.ctx_sr, hf, hd, Fx.absorb_ok, Fx.warn_warn]
  simp only [Clar.recompute_eq, htune, Vib.retune_all m.vb hctx hhz, Hdr.changed_all, Bool.true_and, decide_eq_true_eq]
  rfl

end

/-! ### FLUTE (R331-R333) -/

section
variable {m : Flute}

theorem Flute.configure_ok {d e : Dll} {v : Vib} (hd : m.bore.cfg s.params n = .ok 0 d) (he : m.jet.cfg s.params n = .ok 0 e)
    (hv : m.vb.settab s.ctx id = .ok 0 v) :
    m.configure s.ctx n id fx = ({ m with bore := d, jet := e, vb := v }, fx) := by
  simp only [Flute.configure, State.ctx_p, hd, he, hv, Fx.absorb_done]

theorem Flute.initModel_ok (had : m.ad = Adsr.reset) (hctx : ContextSet s) (ht : TimesLegal s.params.fmt s.params.flute.times) :
    m.initModel s.ctx fx =
      ({ m with
         lp := (m.lp.setgain s.params.fmt s.params.flute.lossGain).setcoef s.params.fmt
           (lossPole s.ctx s.params.flute.poleBase s.params.flute.poleStep s.params.flute.poleRef)
         ad := struck s s.params.flute.times }, fx) := by
  simp only [Flute.initModel, State.ctx_p, had, Adsr.strike_reset hctx ht]
  rfl

/-- The forced control update of FLUTE, where its lags and its vibrato frequency are numbers. -/
theorem Flute.recompute_all {d e : Dll} {lag : Flt}
    (hf : freqOf s.ctx m.hdr (windFmax s.params.flute.fmax s.ctx) = (fr, clamp))
    (hlag : lag = s.params.fmt.sub (s.params.fmt.div (s.params.fmt.mul (s.params.fmt.lit 3 2) s.sr) fr) s.params.flute.lagOffset)
    (hd : m.bore.setdel s.params.fmt lag = .ok w d)
    (he : m.jet.setdel s.params.fmt (s.params.fmt.mul lag (m.hdr.ctl.get 9)) = .ok w' e)
    (hctx : ContextSet s) (hhz : s.params.fmt.isFinite (m.hdr.ctl.get 6) = true) :
    m.recompute s.ctx true fx =
      ({ m with
         bore := d
         jet := e
         maxP := s.params.fmt.div (s.params.fmt.add s.params.flute.pressBase
           (s.params.fmt.mul s.params.flute.pressStep (s.params.fmt.mul (m.hdr.ctl.get 0) s.params.ampRscale)))
           s.params.flute.pressDiv
         vb := m.vb.at s (m.hdr.ctl.get 6) }, fx.warn (clamp ||| (w ||| w'))) := by
  have htune : m.retune s.ctx true fx = ({ m with bore := d, jet := e }, fx.warn (clamp ||| (w ||| w'))) := by
    simp only [Flute.retune, Hdr.changed_all, Bool.or_self, if_true, Flute.tune, State.ctx_f, State.ctx_p, State.ctx_sr, hf,
      Fmt.lit_fifteen_tenths, ← hlag, hd, Fx.absorb_ok, Hdr.c, he, Fx.warn_warn, BitVec.or_assoc]
  simp only [Flute.recompute_eq, htune, Vib.retune_all m.vb hctx hhz, Hdr.changed_all, if_true]
  rfl

end

/-! ### BOWED (R341-R343) -/

section
variable {m : Bowed}

theorem Bowed.configure_ok {d e : Dll} {v : Vib} (hd : m.nut.cfg s.params n = .ok 0 d) (he : m.bridge.cfg s.params n = .ok 0 e)
    (hv : m.vb.settab s.ctx id = .ok 0 v) :
    m.configure s.ctx n id fx = ({ m with nut := d, bridge := e, vb := v }, fx) := by
  simp only [Bowed.configure, State.ctx_p, hd, he, hv, Fx.absorb_done]

theorem Bowed.initModel_ok (had : m.ad = Adsr.reset) (hctx : ContextSet s) (ht : TimesLegal s.params.fmt s.params.bowed.times)
    (hf : s.params.fmt.isFinite s.params.bowed.bodyFreq = true) (hr : s.params.fmt.isFinite s.params.bowed.bodyR = true) :
    m.initModel s.ctx fx =
      ({ m with
         lp := (m.lp.setgain s.params.fmt s.params.bowed.lossGain).setcoef s.params.fmt
           (lossPole s.ctx s.params.bowed.poleBase s.params.bowed.poleStep s.params.bowed.poleRef)
         body := { m.body with
           p0 := s.params.fmt.mul (s.params.fmt.mul (s.params.fmt.lit 2 1) s.params.bowed.bodyR)
             (s.params.fmt.cos s.params.libm (s.params.fmt.div (s.params.fmt.mul s.params.fmt.twoPi s.params.bowed.bodyFreq) s.sr))
           p1 := s.params.fmt.neg (s.params.fmt.mul s.params.bowed.bodyR s.params.bowed.bodyR)
           z0 := 0#64, z1 := s.params.fmt.lit (-1) 1, gain := s.params.bowed.bodyGain }
         ad := struck s s.params.bowed.times }, fx) := by
  have hq := Biq.setfr_ok (c := s.ctx) m.body hctx.1 hf hr
  simp only [Bowed.initModel, State.ctx_p, had, hq, Fx.absorb_done, Adsr.strike_reset hctx ht]
  rfl

/-- The forced control update of BOWED, where its lags and its vibrato frequency are numbers. -/
theorem Bowed.recompute_all {d e : Dll} {base : Flt}
    (hf : freqOf s.ctx m.hdr (windFmax s.params.bowed.fmax s.ctx) = (fr, clamp))
    (hbase : base = s.params.fmt.sub (s.params.fmt.div s.sr fr) s.params.bowed.comp)
    (hd : m.bridge.setdel s.params.fmt (s.params.fmt.mul base (m.hdr.ctl.get 10)) = .ok w d)
    (he : m.nut.setdel s.params.fmt (s.params.fmt.mul base (s.params.fmt.sub s.params.fmt.one (m.hdr.ctl.get 10))) = .ok w' e)
    (hctx : ContextSet s) (hhz : s.params.fmt.isFinite (m.hdr.ctl.get 6) = true) :
    m.recompute s.ctx true fx =
      ({ m with
         nut := e
         bridge := d
         base := base
         bw := ⟨s.params.fmt.sub s.params.bowed.slopeBase (s.params.fmt.mul s.params.bowed.slopeStep (m.hdr.ctl.get 9))⟩
         maxVel := s.params.fmt.add s.params.bowed.velBase
           (s.params.fmt.mul s.params.bowed.velStep (s.params.fmt.mul (m.hdr.ctl.get 0) s.params.ampRscale))
         vb := m.vb.at s (m.hdr.ctl.get 6) }, fx.warn (clamp ||| (w ||| w'))) := by
  have htune : m.retune s.ctx true fx = ({ m with base := base, bridge := d, nut := e }, fx.warn (clamp ||| (w ||| w'))) := by
    simp only [Bowed.retune, Hdr.changed_all, Bool.or_self, if_true, Bowed.tune, State.ctx_f, State.ctx_p, State.ctx_sr, hf,
      ← hbase, Hdr.c, hd, Fx.absorb_ok, he, Fx.warn_warn, BitVec.or_assoc]
  simp only [Bowed.recompute_eq, htune, Vib.retune_all m.vb hctx hhz, Hdr.changed_all, if_true]
  rfl

end

/-! ### BRASS (R349, R350) -/

section
variable {m : Brass}

theorem Brass.configure_ok {d : Dla} {v : Vib} (hd : m.bore.cfg s.params n = .ok 0 d) (hv : m.vb.settab s.ctx id = .ok 0 v) :
    m.configure s.ctx n id fx = ({ m with bore := d, vb := v }, fx) := by
  simp only [Brass.configure, State.ctx_p, hd, hv, Fx.absorb_done]

theorem Brass.initModel_ok (had : m.ad = Adsr.reset) (hctx : ContextSet s) (ht : TimesLegal s.params.fmt s.params.brass.times) :
    m.initModel s.ctx fx =
      ({ m with lip := m.lip.setgain s.params.brass.lipGain, ad := struck s s.params.brass.times }, fx) := by
  simp only [Brass.initModel, State.ctx_p, had, Adsr.strike_reset hctx ht]

/-- The forced control update of BRASS, where its lag, its lip settings and its vibrato frequency are numbers. -/
theorem Brass.recompute_all {d : Dla} {lip : Flt}
    (hf : freqOf s.ctx m.hdr (windFmax s.params.brass.fmax s.ctx) = (fr, clamp))
    (hd : m.bore.setdel s.params.fmt (s.params.fmt.add
      (s.params.fmt.mul (s.params.fmt.div s.sr fr) s.params.brass.lagFactor) s.params.brass.lagOffset) = .ok w d)
    (hlip : Brass.lipFreq s.ctx fr m = lip) (hlipfin : s.params.fmt.isFinite lip = true)
    (hr : s.params.fmt.isFinite s.params.brass.lipR = true)
    (hctx : ContextSet s) (hhz : s.params.fmt.isFinite (m.hdr.ctl.get 6) = true) :
    m.recompute s.ctx true fx =
      ({ m with
         bore := d
         lip := { m.lip with
           p0 := s.params.fmt.mul (s.params.fmt.mul (s.params.fmt.lit 2 1) s.params.brass.lipR)
             (s.params.fmt.cos s.params.libm (s.params.fmt.div (s.params.fmt.mul s.params.fmt.twoPi lip) s.sr))
           p1 := s.params.fmt.neg (s.params.fmt.mul s.params.brass.lipR s.params.brass.lipR) }
         maxP := s.params.fmt.mul (m.hdr.ctl.get 0) s.params.ampRscale
         vb := m.vb.at s (m.hdr.ctl.get 6) }, fx.warn (clamp ||| w)) := by
  have hq := Biq.setfr_ok (c := s.ctx) m.lip hctx.1 hlipfin hr
  simp only [State.ctx_f, State.ctx_p, State.ctx_sr] at hq
  simp only [Brass.recompute_eq, Brass.retune, Hdr.changed_all, Bool.or_self, if_true, Brass.tune, State.ctx_f, State.ctx_p,
    State.ctx_sr, hf, hd, hlip, hq, Fx.absorb_ok, Fx.warn_warn, Fx.warn_none, Vib.retune_all m.vb hctx hhz]
  rfl

end

end

/-! ### The notes -/

/-- Settles O48: `started_of` with the parts of a BAR INIT; the four lines are configured alike and each takes its mode's lag. -/
theorem barInitStarts : Obligations.BarInitStarts := by
  intro s n m q hm f p c fmax fr rad r0 r1 r2 r3 hready htimes hmodes tuned
  have ⟨hctx, _, _, _, hcap⟩ := hready
  obtain ⟨d0, hcfg, hsized⟩ := Dln.cfg_sized hcap
  simp only [List.forall_mem_cons] at hmodes
  obtain ⟨⟨hl0, hf0, hr0⟩, ⟨hl1, hf1, hr1⟩, ⟨hl2, hf2, hr2⟩, ⟨hl3, hf3, hr3⟩, -⟩ := hmodes
  have hfreq : freqOf s.ctx (freshHdr (noteMinF s m.hdr fmax) m.hdr) (barFmax s.ctx) =
      (fr, noteClamp f (c 1) (noteMinF s m.hdr fmax) fmax) := freqOf_ctx ..
  clear_value fr
  obtain ⟨w0, l0, h0⟩ := Dln.setdel_ok hl0 hsized
  obtain ⟨w1, l1, h1⟩ := Dln.setdel_ok hl1 hsized
  obtain ⟨w2, l2, h2⟩ := Dln.setdel_ok hl2 hsized
  obtain ⟨w3, l3, h3⟩ := Dln.setdel_ok hl3 hsized
  refine ⟨_, w0, w1, w2, w3,
    started_of barKit_hasHdr (fun _ _ => rfl) hm rfl rfl hready rfl (Bar.configure_ok (f.trunc (c 5)).toNat hcfg)
      (Bar.initModel_ok rfl hctx htimes) (Bar.recompute_all hfreq fun _ => Bar.tune_ok (fun _ => Branch.tune_ok rfl h0 hctx hf0 hr0)
        (fun _ => Branch.tune_ok rfl h1 hctx hf1 hr1) (fun _ => Branch.tune_ok rfl h2 hctx hf2 hr2)
        (fun _ => Branch.tune_ok rfl h3 hctx hf3 hr3)) rfl, ?_⟩
  exact ⟨⟨⟨d0, hcfg, h0⟩, rfl, rfl⟩, ⟨⟨d0, hcfg, h1⟩, rfl, rfl⟩, ⟨⟨d0, hcfg, h2⟩, rfl, rfl⟩, ⟨⟨d0, hcfg, h3⟩, rfl, rfl⟩,
    rfl, rfl, rfl, rfl, rfl, rfl, rfl⟩

/-- Settles O49: `started_of` with the parts of a CLAR INIT. -/
theorem clarInitStarts : Obligations.ClarInitStarts := by
  intro s n m q hm f p c fmax fr lag id len hready hq hlag hhz
  have ⟨hctx, htable, _, _, hcap⟩ := hready
  obtain ⟨-, hlen⟩ := htable rfl
  obtain ⟨d0, hcfg, hsized⟩ := Dll.cfg_sized hcap Dll.reset hq
  obtain ⟨w, dl, hset⟩ := Dll.setdel_ok hlag hsized
  obtain ⟨rate, htab⟩ := Vib.settab_reset (c := s.ctx) (id := id) hlen
  exact ⟨_, w, started_of clarKit_hasHdr (fun _ _ => rfl) hm rfl (windFmax_ctx s _).symm hready rfl (Clar.configure_ok hcfg htab)
    (Clar.initModel_ok hctx) (Clar.recompute_all (freqOf_wind s _ _) hset hctx hhz) rfl,
    ⟨d0, hcfg, hset⟩, rfl, rfl, rfl, rfl, rfl⟩

/-- Settles O50: `started_of` with the parts of a FLUTE INIT. -/
theorem fluteInitStarts : Obligations.FluteInitStarts := by
  intro s n m q hm f p c fmax fr lag pole id len hready hq htimes hlag hjet hhz
  have ⟨hctx, htable, _, _, hcap⟩ := hready
  obtain ⟨-, hlen⟩ := htable rfl
  obtain ⟨d0, hcfg, hsized⟩ := Dll.cfg_sized hcap Dll.reset hq
  obtain ⟨w, bore, hbore⟩ := Dll.setdel_ok hlag hsized
  obtain ⟨w', jet, hjet⟩ := Dll.setdel_ok hjet hsized
  obtain ⟨rate, htab⟩ := Vib.settab_reset (c := s.ctx) (id := id) hlen
  exact ⟨_, w, w', started_of fluteKit_hasHdr (fun _ _ => rfl) hm (Fmt.lit_fifteen_tenths f).symm (windFmax_ctx s _).symm hready rfl
    (Flute.configure_ok hcfg hcfg htab) (Flute.initModel_ok rfl hctx htimes)
    (Flute.recompute_all (freqOf_wind s _ _) rfl hbore hjet hctx hhz) rfl, ⟨d0, hcfg, hbore, hjet⟩, rfl, rfl, rfl, rfl, rfl, rfl⟩

/-- Settles O51: `started_of` with the parts of a BOWED INIT. -/
theorem bowedInitStarts : Obligations.BowedInitStarts := by
  intro s n m q hm f p c fmax fr base pole id len hready hq htimes hbody hbodyR hbridge hnut hhz
  have ⟨hctx, htable, _, _, hcap⟩ := hready
  obtain ⟨-, hlen⟩ := htable rfl
  obtain ⟨d0, hcfg, hsized⟩ := Dll.cfg_sized hcap Dll.reset hq
  obtain ⟨w, bridge, hbridge⟩ := Dll.setdel_ok hbridge hsized
  obtain ⟨w', nut, hnut⟩ := Dll.setdel_ok hnut hsized
  obtain ⟨rate, htab⟩ := Vib.settab_reset (c := s.ctx) (id := id) hlen
  exact ⟨_, w, w', started_of bowedKit_hasHdr (fun _ _ => rfl) hm rfl (windFmax_ctx s _).symm hready rfl
    (Bowed.configure_ok hcfg hcfg htab) (Bowed.initModel_ok rfl hctx htimes hbody hbodyR)
    (Bowed.recompute_all (freqOf_wind s _ _) rfl hbridge hnut hctx hhz) rfl, ⟨d0, hcfg, hbridge, hnut⟩,
    rfl, rfl, rfl, rfl, rfl, rfl, rfl⟩

/-- Settles O52: `started_of` with the parts of a BRASS INIT. -/
theorem brassInitStarts : Obligations.BrassInitStarts := by
  intro s n m q hm f p c fmax fr lag lip id len hready hq htimes hlag hlip hlipR hhz
  have ⟨hctx, htable, _, _, hcap⟩ := hready
  obtain ⟨-, hlen⟩ := htable rfl
  obtain ⟨d0, hcfg, hsized⟩ := Dla.cfg_sized hcap Dla.reset hq
  obtain ⟨w, bore, hbore⟩ := Dla.setdel_ok hlag hsized
  obtain ⟨rate, htab⟩ := Vib.settab_reset (c := s.ctx) (id := id) hlen
  exact ⟨_, w, started_of brassKit_hasHdr (fun _ _ => rfl) hm rfl (windFmax_ctx s _).symm hready rfl
    (Brass.configure_ok hcfg htab) (Brass.initModel_ok rfl hctx htimes)
    (Brass.recompute_all (freqOf_wind s _ _) hbore rfl hlip hlipR hctx hhz) rfl, ⟨d0, hcfg, hbore⟩, rfl, rfl, rfl, rfl, rfl⟩

end Sys2Proof.Machine

/-! PROOFS. 44_models_common.md: what a RENDER reads of a model's header, what it leaves of it, and what its samples make of the effects
(R280, R284, R285, R288; 70_reset_and_hazards.md R400; log 30). -/

namespace Sys2Proof.Machine

/-! ### What a RENDER reads of a header -/

/-- Two headers say the same wherever a rule of RENDER reads them: the k-rate controls `ks` and their caches, minF and the controls as
INIT read them. The counter, the life-cycle state and every other control may differ. -/
structure Hdr.Agrees (ks : List (Fin 16)) (h h' : Hdr) : Prop where
  ctl : ∀ x ∈ ks, h'.ctl.get x = h.ctl.get x
  cache : ∀ x ∈ ks, h'.cache.get x = h.cache.get x
  minF : h'.minF = h.minF
  iCtl : h'.iCtl = h.iCtl

section
variable {ks : List (Fin 16)} {h h' : Hdr} (ha : h.Agrees ks h')

theorem Hdr.Agrees.refl (ks : List (Fin 16)) (h : Hdr) : h.Agrees ks h := ⟨fun _ _ => rfl, fun _ _ => rfl, rfl, rfl⟩

/-- A header with another counter. -/
theorem Hdr.agrees_counter (ks : List (Fin 16)) (h : Hdr) (n : Int) : h.Agrees ks { h with counter := n } :=
  ⟨fun _ _ => rfl, fun _ _ => rfl, rfl, rfl⟩

/-- A header with other controls that are not among `ks`. -/
theorem Hdr.agrees_ctl {ctl : Vector Flt 16} (hctl : ∀ x ∈ ks, ctl.get x = h.ctl.get x) : h.Agrees ks { h with ctl := ctl } :=
  ⟨hctl, fun _ _ => rfl, rfl, rfl⟩

include ha

theorem Hdr.Agrees.c {x : Fin 16} (hx : x ∈ ks) : h'.c x = h.c x := ha.ctl x hx

theorem Hdr.Agrees.ci (x : Fin 16) : h'.ci x = h.ci x := by rw [Hdr.ci, Hdr.ci, ha.iCtl]

theorem Hdr.Agrees.changed (all : Bool) {x : Fin 16} (hx : x ∈ ks) : h'.changed all x = h.changed all x := by
  rw [Hdr.changed, Hdr.changed, ha.ctl x hx, ha.cache x hx]

theorem Hdr.Agrees.ampN (c : Ctx) (hx : ctlAmp ∈ ks) : Machine.ampN c h' = Machine.ampN c h := by
  rw [Machine.ampN, Machine.ampN, ha.c hx]

theorem Hdr.Agrees.freqOf (c : Ctx) (fmax : Flt) (hx : ctlFreq ∈ ks) : Machine.freqOf c h' fmax = Machine.freqOf c h fmax := by
  simp only [Machine.freqOf, ha.c hx, ha.minF]

theorem Vib.retune_agrees (c : Ctx) (all : Bool) (fx : Fx) (u : Vib) (hx : ctlVibFreq ∈ ks) :
    u.retune c all fx h' = u.retune c all fx h := by
  simp only [Vib.retune, ha.changed all hx, ha.c hx]

end

/-- A model whose rules of RENDER read no more of its header than `Hdr.Agrees` keeps, and write nothing of it. -/
structure ModelKit.Blind {M : Type} (k : ModelKit M) : Prop extends k.HasHdr where
  recompute : ∀ c all m fx {h}, (k.hdr m).Agrees k.kRate h →
    k.recompute c all (k.setHdr h m) fx = (k.setHdr h (k.recompute c all m fx).1, (k.recompute c all m fx).2)
  sample : ∀ c m fx {h}, (k.hdr m).Agrees k.kRate h →
    k.sample c (k.setHdr h m) fx = ⟨(k.sample c m fx).y, k.setHdr h (k.sample c m fx).m, (k.sample c m fx).fx⟩
  release : ∀ c m fx {h}, (k.hdr m).Agrees k.kRate h →
    k.release c (k.setHdr h m) fx = (k.setHdr h (k.release c m fx).1, (k.release c m fx).2)

section
variable (c : Ctx) (all : Bool) (fx : Fx) {h : Hdr}

/-! BAR -/

theorem Bar.drive_hdr (m : Bar) : (Bar.drive c m).hdr = m.hdr := by
  unfold Bar.drive
  split <;> rfl

section
variable {m : Bar} (ha : m.hdr.Agrees barKit.kRate h)
include ha

theorem Bar.retune_setHdr :
    Bar.retune c all fx { m with hdr := h } = ({ (m.retune c all fx).1 with hdr := h }, (m.retune c all fx).2) := by
  simp (disch := decide) only [Bar.retune, ha.changed, ha.freqOf]
  split <;> rfl

theorem Bar.recompute_setHdr :
    Bar.recompute c all { m with hdr := h } fx = ({ (m.recompute c all fx).1 with hdr := h }, (m.recompute c all fx).2) := by
  simp (disch := decide) only [Bar.recompute_eq, Bar.retune_setHdr c all fx ha, ha.changed, ha.c, ha.ampN]
  rfl

theorem Bar.drive_setHdr : Bar.drive c { m with hdr := h } = { Bar.drive c m with hdr := h } := by
  simp only [Bar.drive, ha.ci]
  split <;> rfl

theorem Bar.sample_setHdr :
    Bar.sample c { m with hdr := h } fx =
      ⟨(Bar.sample c m fx).y, { (Bar.sample c m fx).m with hdr := h }, (Bar.sample c m fx).fx⟩ := by
  have hest : Bar.estimate c { m with hdr := h } = Bar.estimate c m := by
    simp (disch := decide) only [Bar.estimate, ha.c, ha.ci]
  have hdrive : Bar.drive c { m with hdr := h, vEst := Bar.estimate c m } =
      { Bar.drive c { m with vEst := Bar.estimate c m } with hdr := h } :=
    Bar.drive_setHdr c (m := { m with vEst := Bar.estimate c m }) ha
  simp (disch := decide) only [Bar.sample, hest, hdrive, Bar.drive_hdr, ha.c]

end

theorem barKit_blind : barKit.Blind where
  toHasHdr := barKit_hasHdr
  recompute c all _ fx _ := Bar.recompute_setHdr c all fx
  sample c _ fx _ := Bar.sample_setHdr c fx
  release _ _ _ _ _ := rfl

/-! CLAR -/

section
variable {m : Clar} (ha : m.hdr.Agrees clarKit.kRate h)
include ha

theorem Clar.retune_setHdr : Clar.retune c all fx { m with hdr := h } = m.retune c all fx := by
  simp (disch := decide) only [Clar.retune, ha.changed, ha.freqOf]

theorem Clar.recompute_setHdr :
    Clar.recompute c all { m with hdr := h } fx = ({ (m.recompute c all fx).1 with hdr := h }, (m.recompute c all fx).2) := by
  simp (disch := decide) only [Clar.recompute_eq, Clar.retune_setHdr c all fx ha, Vib.retune_agrees ha, ha.changed, ha.ampN]

theorem Clar.sample_setHdr :
    Clar.sample c { m with hdr := h } fx =
      ⟨(Clar.sample c m fx).y, { (Clar.sample c m fx).m with hdr := h }, (Clar.sample c m fx).fx⟩ := by
  simp (disch := decide) only [Clar.sample, ha.c]

theorem Clar.release_setHdr :
    Clar.release c { m with hdr := h } fx = ({ (m.release c fx).1 with hdr := h }, (m.release c fx).2) := by
  simp only [Clar.release, ha.ci]

end

theorem clarKit_blind : clarKit.Blind where
  toHasHdr := clarKit_hasHdr
  recompute c all _ fx _ := Clar.recompute_setHdr c all fx
  sample c _ fx _ := Clar.sample_setHdr c fx
  release c _ fx _ := Clar.release_setHdr c fx

/-! FLUTE -/

section
variable {m : Flute} (ha : m.hdr.Agrees fluteKit.kRate h)
include ha

theorem Flute.retune_setHdr :
    Flute.retune c all fx { m with hdr := h } = ({ (m.retune c all fx).1 with hdr := h }, (m.retune c all fx).2) := by
  simp (disch := decide) only [Flute.retune, Flute.tune, ha.changed, ha.c, ha.freqOf]
  split <;> rfl

theorem Flute.recompute_setHdr :
    Flute.recompute c all { m with hdr := h } fx = ({ (m.recompute c all fx).1 with hdr := h }, (m.recompute c all fx).2) := by
  simp (disch := decide) only [Flute.recompute_eq, Flute.retune_setHdr c all fx ha, Vib.retune_agrees ha, ha.changed, ha.ampN]

theorem Flute.sample_setHdr :
    Flute.sample c { m with hdr := h } fx =
      ⟨(Flute.sample c m fx).y, { (Flute.sample c m fx).m with hdr := h }, (Flute.sample c m fx).fx⟩ := by
  simp (disch := decide) only [Flute.sample, ha.c]

theorem Flute.release_setHdr :
    Flute.release c { m with hdr := h } fx = ({ (m.release c fx).1 with hdr := h }, (m.release c fx).2) := by
  simp only [Flute.release, Adsr.letGo, ha.ci]

end

theorem fluteKit_blind : fluteKit.Blind where
  toHasHdr := fluteKit_hasHdr
  recompute c all _ fx _ := Flute.recompute_setHdr c all fx
  sample c _ fx _ := Flute.sample_setHdr c fx
  release c _ fx _ := Flute.release_setHdr c fx

/-! BOWED -/

section
variable {m : Bowed} (ha : m.hdr.Agrees bowedKit.kRate h)
include ha

theorem Bowed.retune_setHdr :
    Bowed.retune c all fx { m with hdr := h } = ({ (m.retune c all fx).1 with hdr := h }, (m.retune c all fx).2) := by
  simp (disch := decide) only [Bowed.retune, Bowed.tune, ha.changed, ha.c, ha.freqOf]
  split <;> rfl

theorem Bowed.recompute_setHdr :
    Bowed.recompute c all { m with hdr := h } fx = ({ (m.recompute c all fx).1 with hdr := h }, (m.recompute c all fx).2) := by
  simp (disch := decide) only [Bowed.recompute_eq, Bowed.retune_setHdr c all fx ha, Vib.retune_agrees ha, ha.changed, ha.c,
    ha.ampN]

theorem Bowed.vibrate_setHdr :
    Bowed.vibrate c { m with hdr := h } fx = ({ (m.vibrate c fx).1 with hdr := h }, (m.vibrate c fx).2) := by
  simp (disch := decide) only [Bowed.vibrate, ha.c]
  split <;> rfl

theorem Bowed.sample_setHdr :
    Bowed.sample c { m with hdr := h } fx =
      ⟨(Bowed.sample c m fx).y, { (Bowed.sample c m fx).m with hdr := h }, (Bowed.sample c m fx).fx⟩ := by
  have hvib (e : Adsr) (l : Opole) (nut bridge : Dll) :=
    Bowed.vibrate_setHdr c fx (m := { m with ad := e, lp := l, nut := nut, bridge := bridge }) ha
  simp only [Bowed.sample, hvib]

end

theorem bowedKit_blind : bowedKit.Blind where
  toHasHdr := bowedKit_hasHdr
  recompute c all _ fx _ := Bowed.recompute_setHdr c all fx
  sample c _ fx _ := Bowed.sample_setHdr c fx
  release _ _ _ _ _ := rfl

/-! BRASS -/

section
variable {m : Brass} (ha : m.hdr.Agrees brassKit.kRate h)
include ha

theorem Brass.retune_setHdr :
    Brass.retune c all fx { m with hdr := h } = ({ (m.retune c all fx).1 with hdr := h }, (m.retune c all fx).2) := by
  simp (disch := decide) only [Brass.retune, Brass.tune, Brass.lipFreq, ha.changed, ha.c, ha.freqOf]
  split <;> rfl

theorem Brass.recompute_setHdr :
    Brass.recompute c all { m with hdr := h } fx = ({ (m.recompute c all fx).1 with hdr := h }, (m.recompute c all fx).2) := by
  simp (disch := decide) only [Brass.recompute_eq, Brass.retune_setHdr c all fx ha, Vib.retune_agrees ha, ha.changed, ha.ampN]

theorem Brass.sample_setHdr :
    Brass.sample c { m with hdr := h } fx =
      ⟨(Brass.sample c m fx).y, { (Brass.sample c m fx).m with hdr := h }, (Brass.sample c m fx).fx⟩ := by
  simp (disch := decide) only [Brass.sample, ha.c]

theorem Brass.release_setHdr :
    Brass.release c { m with hdr := h } fx = ({ (m.release c fx).1 with hdr := h }, (m.release c fx).2) := by
  simp only [Brass.release, Adsr.letGo, ha.ci]

end

theorem brassKit_blind : brassKit.Blind where
  toHasHdr := brassKit_hasHdr
  recompute c all _ fx _ := Brass.recompute_setHdr c all fx
  sample c _ fx _ := Brass.sample_setHdr c fx
  release c _ fx _ := Brass.release_setHdr c fx

end

end Sys2Proof.Machine

/-! PROOFS. 44_models_common.md: the RENDER of a running instance writes its block (R285, R353), ignores controls that are not k-rate
(R400) and renders a block in parts (R354). -/

namespace Sys2Proof.Machine

section
variable {M : Type} {k : ModelKit M}

/-! ### The header after the parts of a RENDER (R280, R285, R288) -/

section
variable (hk : k.Blind) (c : Ctx) (m : M) (fx : Fx)
include hk

theorem ModelKit.Blind.hdr_recompute (all : Bool) : k.hdr (k.recompute c all m fx).1 = k.hdr m := by
  have h := congrArg Prod.fst (hk.recompute c all m fx (.refl _ _))
  rw [hk.setHdr_hdr] at h
  rw [h, hk.hdr_setHdr]

theorem ModelKit.Blind.hdr_sample : k.hdr (k.sample c m fx).m = k.hdr m := by
  have h := congrArg Smp.m (hk.sample c m fx (.refl _ _))
  rw [hk.setHdr_hdr] at h
  rw [h, hk.hdr_setHdr]

theorem ModelKit.Blind.hdr_release : k.hdr (k.release c m fx).1 = k.hdr m := by
  have h := congrArg Prod.fst (hk.release c m fx (.refl _ _))
  rw [hk.setHdr_hdr] at h
  rw [h, hk.hdr_setHdr]

theorem ModelKit.Blind.hdr_renderLoop (n : Nat) : k.hdr (renderLoop k c n m fx).2.1 = k.hdr m :=
  renderLoop_induction (P := fun m' _ => k.hdr m' = k.hdr m) (fun m' fx' h => (hk.hdr_sample c m' fx').trans h) n m fx rfl

/-- The samples of a RENDER are the same under every header that says the same to them. -/
theorem ModelKit.Blind.renderLoop_setHdr {h : Hdr} (ha : (k.hdr m).Agrees k.kRate h) (n : Nat) :
    renderLoop k c n (k.setHdr h m) fx =
      ((renderLoop k c n m fx).1, k.setHdr h (renderLoop k c n m fx).2.1, (renderLoop k c n m fx).2.2) := by
  induction n generalizing m fx with
  | zero => rfl
  | succ n ih =>
    simp only [renderLoop, hk.sample c m fx ha]
    rw [ih _ _ (by rwa [hk.hdr_sample])]

theorem ModelKit.Blind.hdr_releaseStep :
    k.hdr (releaseStep k c m fx).1 = { k.hdr m with counter := (k.hdr m).counter - 1 } := by
  unfold releaseStep
  dsimp only
  split
  · rw [hk.hdr_release, hk.hdr_setHdr]
  · rw [hk.hdr_setHdr]

theorem ModelKit.Blind.hdr_controlUpdate (all : Bool) :
    k.hdr (controlUpdate k c all m fx).1 = (k.hdr m).refresh k.kRate := by
  unfold controlUpdate
  rw [hk.hdr_setHdr, hk.hdr_recompute]

/-- Before its samples a RENDER counts down and stores the controls it reads in their caches. -/
theorem ModelKit.Blind.hdr_renderPrep :
    k.hdr (renderPrep k c m fx).1 = { (k.hdr m).refresh k.kRate with counter := (k.hdr m).counter - 1 } := by
  unfold renderPrep
  dsimp only
  rw [hk.hdr_controlUpdate, hk.hdr_releaseStep]
  rfl

end

/-! ### The body of a RENDER -/

/-- What a RENDER that no error abandons is made of. -/
theorem renderBody_ok {c : Ctx} {n : Nat} {m : M} {fx : Fx} {w : U32} {r : List Flt × M × Fx}
    (h : renderBody k c n m fx = .ok w r) :
    (renderPrep k c m fx).2.raised = 0 ∧ w = r.2.2.warns
      ∧ r = renderLoop k c n (renderPrep k c m fx).1 { (renderPrep k c m fx).2 with strict := false } := by
  rcases renderBody_cases k c n m fx with ⟨-, h'⟩ | ⟨h0, h'⟩ <;> rw [h'] at h <;> cases h
  exact ⟨h0, rfl, rfl⟩

theorem renderBody_length {c : Ctx} {n : Nat} {m : M} {fx : Fx} {w : U32} {r : List Flt × M × Fx}
    (h : renderBody k c n m fx = .ok w r) : r.1.length = n := by
  obtain ⟨-, -, rfl⟩ := renderBody_ok h
  exact renderLoop_length ..

/-- A RENDER leaves the counter one less and, of the caches, those of the controls it reads refreshed; the rest of the header is kept. -/
theorem ModelKit.Blind.hdr_renderBody (hk : k.Blind) {c : Ctx} {n : Nat} {m : M} {fx : Fx} {w : U32} {r : List Flt × M × Fx}
    (h : renderBody k c n m fx = .ok w r) :
    k.hdr r.2.1 = { (k.hdr m).refresh k.kRate with counter := (k.hdr m).counter - 1 } := by
  obtain ⟨-, -, rfl⟩ := renderBody_ok h
  rw [hk.hdr_renderLoop, hk.hdr_renderPrep]

/-! ### The draws of a RENDER (R285; 43_tables_noise_vibrato.md R250) -/

/-- A model draws one answer of NOISE_SRC for each sample, or none; its other rules draw none. -/
structure ModelKit.Draws (k : ModelKit M) (draws : Bool) : Prop where
  recompute : ∀ c all m fx, (k.recompute c all m fx).2.noise = fx.noise
  release : ∀ c m fx, (k.release c m fx).2.noise = fx.noise
  sample : ∀ c m fx, (k.sample c m fx).fx.noise = if draws then fx.noise.drop 1 else fx.noise

section
variable {draws : Bool} (hd : k.Draws draws) (c : Ctx)
include hd

theorem ModelKit.Draws.renderPrep (m : M) (fx : Fx) : (renderPrep k c m fx).2.noise = fx.noise := by
  unfold Machine.renderPrep controlUpdate releaseStep
  dsimp only
  rw [hd.recompute]
  split
  · exact hd.release ..
  · rfl

theorem ModelKit.Draws.renderLoop (n : Nat) (m : M) (fx : Fx) :
    (renderLoop k c n m fx).2.2.noise = if draws then fx.noise.drop n else fx.noise := by
  induction n generalizing m fx with
  | zero => simp [Machine.renderLoop]
  | succ n ih =>
    rw [Machine.renderLoop, ih, hd.sample]
    cases draws
    · rfl
    · simp only [if_true, List.drop_drop, Nat.add_comm]

theorem ModelKit.Draws.renderBody {n : Nat} {m : M} {fx : Fx} {w : U32} {r : List Flt × M × Fx}
    (h : renderBody k c n m fx = .ok w r) : r.2.2.noise = if draws then fx.noise.drop n else fx.noise := by
  obtain ⟨-, -, rfl⟩ := renderBody_ok h
  rw [hd.renderLoop, hd.renderPrep]

end

/-! ### Reading and writing the bank of a class (30_encoding.md R104) -/

/-- A block written to output memory from word 0, and the draws it took. -/
def State.deliver (s : State) (words : List Flt) (fx : Fx) : State := { s.takeFx fx with out := outBlock 0 words s.out }

section
variable {α : Type} {cls : Nat} {get : State → List α} {put : State → List α → State} (hb : IsBank cls get put)
include hb

theorem IsBank.get_put (s : State) (b : List α) : get (put s b) = b := by cases hb <;> rfl

theorem IsBank.put_put (s : State) (b b' : List α) : put (put s b) b' = put s b' := by cases hb <;> rfl

theorem IsBank.get_after (s : State) (w : U32) : get (s.after w) = get s := by cases hb <;> rfl

theorem IsBank.put_after (s : State) (w : U32) (b : List α) : put (s.after w) b = (put s b).after w := by cases hb <;> rfl

theorem IsBank.get_iarg (s : State) (a : U32) : get { s with iarg := a } = get s := by cases hb <;> rfl

/-- Writing a bank changes nothing that a command reads beside its unit. -/
theorem IsBank.put_operands (s : State) (b : List α) :
    (put s b).ctx = s.ctx ∧ (put s b).iarg = s.iarg ∧ (put s b).fx true = s.fx true := by
  cases hb <;> exact ⟨rfl, rfl, rfl⟩

theorem IsBank.put_out (s : State) (b : List α) : (put s b).out = s.out := by cases hb <;> rfl

theorem IsBank.get_deliver (s : State) (words : List Flt) (fx : Fx) : get (s.deliver words fx) = get s := by cases hb <;> rfl

theorem IsBank.put_deliver (s : State) (words : List Flt) (fx : Fx) (b : List α) :
    put (s.deliver words fx) b = (put s b).deliver words fx := by cases hb <;> rfl

end

theorem State.deliver_read (s : State) {words : List Flt} (fx : Fx) {a : Nat} (ha : a < words.length) :
    outRead a (s.deliver words fx).out = words[a]? := by
  have hread := outBlock_read (n := 0) ha s.out
  rwa [Nat.zero_add, ← List.getElem?_eq_getElem] at hread

theorem State.deliver_above (s : State) {words : List Flt} (fx : Fx) {a : Nat} (ha : words.length ≤ a) :
    outRead a (s.deliver words fx).out = outRead a s.out :=
  outBlock_above ((Nat.zero_add _).trans_le ha) s.out

/-! ### The command -/

section
variable {bank : State → List M} {put : State → List M → State} {n : Nat} {s : State} {m : M}
  (hm : (bank s)[n]? = some m) (hr : (k.hdr m).mstate = .running)
include hm hr

theorem modelRender_raise {w e : U32} (ho : renderBody k s.ctx s.iarg.toNat m (s.fx true) = .raise w e) :
    modelRender k (bank s) put n s = .next (s.after (w ||| e ||| 0x8000#32)) := by
  rw [← State.iargNat_eq] at ho
  unfold modelRender
  simp only [hm, hr, if_true, ho, State.abandon_eq_after]

theorem modelRender_ok {w : U32} {r : List Flt × M × Fx}
    (ho : renderBody k s.ctx s.iarg.toNat m (s.fx true) = .ok w r) :
    modelRender k (bank s) put n s =
      .next ((put (s.after w) ((bank s).set n r.2.1)).deliver r.1 r.2.2) := by
  rw [← State.iargNat_eq] at ho
  unfold modelRender
  simp only [hm, hr, if_true, ho, State.start_warn_eq_after, State.deliver, State.takeFx]

end

theorem renderRule {bank : State → List M} {put : State → List M → State} {cls : Nat} {ren : Nat → Instr} {draws : Bool}
    (hk : k.Blind) (hd : k.Draws draws) (hb : IsBank cls bank put)
    (hren : ∀ n s, exec (ren n) s = modelRender k (bank s) put n s) : RenderRule k bank put ren k.kRate draws := by
  intro s n m hm hr
  rw [hren]
  cases hbody : renderBody k s.ctx s.iarg.toNat m (s.fx true) with
  | raise w e => exact modelRender_raise hm hr hbody
  | ok w r =>
    obtain ⟨words, m', fx⟩ := r
    have hlen : words.length = s.iarg.toNat := renderBody_length hbody
    have hhdr : k.hdr m' = _ := hk.hdr_renderBody hbody
    refine ⟨_, modelRender_ok hm hr hbody, rfl, hlen, fun a ha => State.deliver_read _ _ (hlen.symm ▸ ha), fun a ha => ?outside,
      ?header, fun x => ?caches, hd.renderBody _ hbody⟩
    case outside => exact (State.deliver_above _ _ (hlen.trans_le ha)).trans (congrArg (outRead a) (hb.put_out ..))
    case header => rw [hhdr]; rfl
    case caches => rw [hhdr]; exact (k.hdr m).refresh_cache_get k.kRate x

/-! ### A control that is not k-rate (R400; log 30) -/

/-- The model with its release counter one less (R288). -/
def ModelKit.countDown (k : ModelKit M) (m : M) : M := k.setHdr { k.hdr m with counter := (k.hdr m).counter - 1 } m

theorem releaseStep_eq (k : ModelKit M) (c : Ctx) (m : M) (fx : Fx) :
    releaseStep k c m fx =
      if (k.hdr m).counter - 1 = 0 then k.release c (k.countDown m) fx else (k.countDown m, fx) := rfl

/-- The model with other control registers. -/
def ModelKit.setCtl (k : ModelKit M) (ctl : Vector Flt 16) (m : M) : M := k.setHdr { k.hdr m with ctl := ctl } m

/-- Refreshing the caches of `ks` from controls that agree on `ks` stores the same. -/
theorem Hdr.refresh_setCtl {ks : List (Fin 16)} {h : Hdr} {ctl : Vector Flt 16} (hctl : ∀ x ∈ ks, ctl.get x = h.ctl.get x) :
    ({ h with ctl := ctl } : Hdr).refresh ks = { h.refresh ks with ctl := ctl } := by
  unfold Hdr.refresh
  dsimp only
  rw [List.foldl_ext _ (fun v x => v.set x.val (h.ctl.get x) x.isLt) h.cache fun v x hx => by rw [hctl x hx]]

section
variable (hk : k.Blind) (c : Ctx) {m : M} (fx : Fx) {ctl : Vector Flt 16} (hctl : ∀ x ∈ k.kRate, ctl.get x = (k.hdr m).ctl.get x)
include hk hctl

theorem ModelKit.Blind.recompute_setCtl (all : Bool) :
    k.recompute c all (k.setCtl ctl m) fx = (k.setCtl ctl (k.recompute c all m fx).1, (k.recompute c all m fx).2) := by
  rw [ModelKit.setCtl, ModelKit.setCtl, hk.recompute c all m fx (Hdr.agrees_ctl hctl), hk.hdr_recompute]

theorem ModelKit.Blind.release_setCtl :
    k.release c (k.setCtl ctl m) fx = (k.setCtl ctl (k.release c m fx).1, (k.release c m fx).2) := by
  rw [ModelKit.setCtl, ModelKit.setCtl, hk.release c m fx (Hdr.agrees_ctl hctl), hk.hdr_release]

theorem ModelKit.Blind.controlUpdate_setCtl (all : Bool) :
    controlUpdate k c all (k.setCtl ctl m) fx =
      (k.setCtl ctl (controlUpdate k c all m fx).1, (controlUpdate k c all m fx).2) := by
  unfold controlUpdate
  rw [hk.recompute_setCtl c fx hctl]
  simp only [ModelKit.setCtl, hk.hdr_setHdr, hk.setHdr_setHdr, hk.hdr_recompute, Hdr.refresh_setCtl hctl]

theorem ModelKit.Blind.releaseStep_setCtl :
    releaseStep k c (k.setCtl ctl m) fx = (k.setCtl ctl (releaseStep k c m fx).1, (releaseStep k c m fx).2) := by
  have hcount : k.countDown (k.setCtl ctl m) = k.setCtl ctl (k.countDown m) := by
    simp only [ModelKit.countDown, ModelKit.setCtl, hk.hdr_setHdr, hk.setHdr_setHdr]
  have hcounter : (k.hdr (k.setCtl ctl m)).counter = (k.hdr m).counter := by rw [ModelKit.setCtl, hk.hdr_setHdr]
  rw [releaseStep_eq, releaseStep_eq, hcount, hcounter]
  split
  · exact hk.release_setCtl c fx (by rwa [ModelKit.countDown, hk.hdr_setHdr])
  · rfl

theorem ModelKit.Blind.renderPrep_setCtl :
    renderPrep k c (k.setCtl ctl m) fx = (k.setCtl ctl (renderPrep k c m fx).1, (renderPrep k c m fx).2) := by
  unfold renderPrep
  rw [hk.releaseStep_setCtl c fx hctl]
  exact hk.controlUpdate_setCtl c _ (by rwa [hk.hdr_releaseStep]) false

theorem ModelKit.Blind.renderLoop_setCtl (n : Nat) :
    renderLoop k c n (k.setCtl ctl m) fx =
      ((renderLoop k c n m fx).1, k.setCtl ctl (renderLoop k c n m fx).2.1, (renderLoop k c n m fx).2.2) := by
  rw [ModelKit.setCtl, ModelKit.setCtl, hk.renderLoop_setHdr c m fx (Hdr.agrees_ctl hctl), hk.hdr_renderLoop]

/-- A RENDER does the same whatever the controls are that are not k-rate. -/
theorem ModelKit.Blind.renderBody_setCtl (n : Nat) :
    renderBody k c n (k.setCtl ctl m) fx = (renderBody k c n m fx).map fun r => (r.1, k.setCtl ctl r.2.1, r.2.2) := by
  unfold renderBody
  rw [hk.renderPrep_setCtl c fx hctl]
  dsimp only
  split
  · rfl
  · rw [hk.renderLoop_setCtl c _ (by rwa [hk.hdr_renderPrep])]
    rfl

end

/-- A RENDER does the same with other controls that are not k-rate, which stay in their registers. -/
theorem modelRender_setCtl {bank : State → List M} {put : State → List M → State} {cls n : Nat} {s : State} {m : M}
    {ctl : Vector Flt 16} (hk : k.Blind) (hb : IsBank cls bank put) (hm : (bank s)[n]? = some m)
    (hctl : ∀ x ∈ k.kRate, ctl.get x = (k.hdr m).ctl.get x) :
    let s' := put s ((bank s).set n (k.setCtl ctl m))
    ∃ t m', modelRender k (bank s) put n s = .next t ∧ (bank t)[n]? = some m' ∧ (k.hdr m').ctl = (k.hdr m).ctl
      ∧ modelRender k (bank s') put n s' = .next (put t ((bank t).set n (k.setCtl ctl m'))) := by
  intro s'
  have hn : n < (bank s).length := (List.getElem?_eq_some_iff.mp hm).1
  obtain ⟨hctx, hiarg, hfx⟩ := hb.put_operands s ((bank s).set n (k.setCtl ctl m))
  have hm' : (bank s')[n]? = some (k.setCtl ctl m) := by rw [hb.get_put, List.getElem?_set_self hn]
  have hbody : renderBody k s'.ctx s'.iarg.toNat (k.setCtl ctl m) (s'.fx true) =
      (renderBody k s.ctx s.iarg.toNat m (s.fx true)).map fun r => (r.1, k.setCtl ctl r.2.1, r.2.2) := by
    rw [hctx, hiarg, hfx, hk.renderBody_setCtl s.ctx (s.fx true) hctl]
  have hstate : (k.hdr (k.setCtl ctl m)).mstate = (k.hdr m).mstate := by rw [ModelKit.setCtl, hk.hdr_setHdr]
  have habandoned (b : U32) : s'.after b = put (s.after b) ((bank (s.after b)).set n (k.setCtl ctl m)) := by
    rw [hb.get_after, hb.put_after]
  by_cases hr : (k.hdr m).mstate = .running
  case neg =>
    refine ⟨_, m, modelRender_idle hm hr, (hb.get_after ..).symm ▸ hm, rfl, ?_⟩
    rw [modelRender_idle hm' (hstate ▸ hr), habandoned]
  case pos =>
    cases ho : renderBody k s.ctx s.iarg.toNat m (s.fx true) with
    | raise w e =>
      refine ⟨_, m, modelRender_raise hm hr ho, (hb.get_after ..).symm ▸ hm, rfl, ?_⟩
      rw [modelRender_raise hm' (hstate.trans hr) (hbody.trans (congrArg _ ho)), habandoned]
    | ok w r =>
      refine ⟨_, r.2.1, modelRender_ok hm hr ho, ?_, ?_, ?_⟩
      · rw [hb.get_deliver, hb.get_put, List.getElem?_set_self hn]
      · rw [hk.hdr_renderBody ho]
        rfl
      · have hbank : bank s' = (bank s).set n (k.setCtl ctl m) := hb.get_put ..
        have hput (l : List M) : put (s'.after w) l = put (s.after w) l := by rw [habandoned, hb.put_put]
        rw [modelRender_ok hm' (hstate.trans hr) (hbody.trans (congrArg _ ho)), hbank, List.set_set, hput, hb.get_deliver,
          hb.get_put, List.set_set, hb.put_deliver, hb.put_put]

theorem iRateWaitsRule {bank : State → List M} {put : State → List M → State} {cls : Nat} {ren : Nat → Instr} (hk : k.Blind)
    (hb : IsBank cls bank put) (hren : ∀ n s, exec (ren n) s = modelRender k (bank s) put n s) :
    IRateWaitsRule k bank put ren k.kRate := by
  intro s n m x v hm hx set
  have hctl : ∀ y ∈ k.kRate, ((k.hdr m).ctl.set x.val v x.isLt).get y = (k.hdr m).ctl.get y := fun y hy =>
    Vector.getElem_set_ne _ _ fun h => hx (Fin.ext h ▸ hy)
  obtain ⟨t, m', ht, hm', hsame, ht'⟩ := modelRender_setCtl hk hb hm hctl
  refine ⟨t, m', (hren n s).trans ht, hm', ?_⟩
  rw [hren]
  show _ = Host.Outcome.next (put t ((bank t).set n (k.setCtl ((k.hdr m').ctl.set x.val v x.isLt) m')))
  rw [hsame]
  exact ht'

end

/-! ### The draws of the five models (R285; 45_models.md R353) -/

theorem draw_noise (f : Fmt) (fx : Fx) : (draw f fx).2.noise = fx.noise.drop 1 := by
  obtain ⟨_, _, _, _ | _, _⟩ := fx <;> rfl

theorem Noise.tick_noise (f : Fmt) (u : Noise) (fx : Fx) : (u.tick f fx).2.2.noise = fx.noise.drop 1 := draw_noise f fx

section
variable (c : Ctx) (all : Bool) (fx : Fx)

@[simp] theorem Vib.tickPrivate_noise (u : Vib) : (u.tickPrivate c fx).2.2.noise = fx.noise := by
  unfold Vib.tickPrivate
  split
  · next ho =>
    obtain ⟨-, ho⟩ := Res.require_ok_iff.mp ho
    cases ho
    exact Fx.warn_noise _ _
  · exact Fx.raise_noise _ _

@[simp] theorem Vib.retune_noise (h : Hdr) (u : Vib) : (u.retune c all fx h).2.noise = fx.noise := by
  unfold Vib.retune
  split
  · exact Fx.absorb_noise ..
  · rfl

@[simp] theorem Branch.tune_noise (f ratio : Flt) (b : Branch) : (b.tune c f ratio fx).2.noise = fx.noise := by simp [Branch.tune]

@[simp] theorem Bar.retune_noise (m : Bar) : (m.retune c all fx).2.noise = fx.noise := by
  unfold Bar.retune
  split
  · simp [Bar.tune]
  · rfl

@[simp] theorem Clar.retune_noise (m : Clar) : (m.retune c all fx).2.noise = fx.noise := by
  unfold Clar.retune
  split
  · simp
  · rfl

@[simp] theorem Flute.retune_noise (m : Flute) : (m.retune c all fx).2.noise = fx.noise := by
  unfold Flute.retune
  split
  · simp [Flute.tune]
  · rfl

@[simp] theorem Bowed.retune_noise (m : Bowed) : (m.retune c all fx).2.noise = fx.noise := by
  unfold Bowed.retune
  split
  · simp [Bowed.tune]
  · rfl

@[simp] theorem Brass.retune_noise (m : Brass) : (m.retune c all fx).2.noise = fx.noise := by
  unfold Brass.retune Brass.tune
  split
  · dsimp only
    split <;> simp
  · rfl

theorem Bowed.vibrate_noise (m : Bowed) : (m.vibrate c fx).2.noise = fx.noise := by
  unfold Bowed.vibrate
  split
  · rfl
  · simp

end

theorem barKit_draws : barKit.Draws false where
  recompute c all m fx := by simp [barKit, Bar.recompute_eq]
  release _ _ _ := rfl
  sample _ _ _ := rfl

theorem clarKit_draws : clarKit.Draws true where
  recompute c all m fx := by simp [clarKit, Clar.recompute_eq]
  release c m fx := Fx.absorb_noise ..
  sample c m fx := (Vib.tickPrivate_noise ..).trans (Noise.tick_noise ..)

theorem fluteKit_draws : fluteKit.Draws true where
  recompute c all m fx := by simp [fluteKit, Flute.recompute_eq]
  release c m fx := Fx.absorb_noise ..
  sample c m fx := (Vib.tickPrivate_noise ..).trans (Noise.tick_noise ..)

theorem bowedKit_draws : bowedKit.Draws false where
  recompute c all m fx := by simp [bowedKit, Bowed.recompute_eq]
  release _ _ _ := rfl
  sample c m fx := Bowed.vibrate_noise ..

theorem brassKit_draws : brassKit.Draws false where
  recompute c all m fx := by simp [brassKit, Brass.recompute_eq]
  release c m fx := Fx.absorb_noise ..
  sample c m fx := Vib.tickPrivate_noise ..

/-- Settles O53: `renderRule` and `iRateWaitsRule` for each model, whose RENDER reads of its header the k-rate controls and what INIT
stored, and draws once for each sample or never. -/
theorem renderWritesTheBlock : Obligations.RenderWritesTheBlock :=
  ⟨⟨renderRule barKit_blind barKit_draws .bar fun _ _ => rfl, iRateWaitsRule barKit_blind .bar fun _ _ => rfl⟩,
    ⟨renderRule clarKit_blind clarKit_draws .clar fun _ _ => rfl, iRateWaitsRule clarKit_blind .clar fun _ _ => rfl⟩,
    ⟨renderRule fluteKit_blind fluteKit_draws .flute fun _ _ => rfl, iRateWaitsRule fluteKit_blind .flute fun _ _ => rfl⟩,
    ⟨renderRule bowedKit_blind bowedKit_draws .bowed fun _ _ => rfl, iRateWaitsRule bowedKit_blind .bowed fun _ _ => rfl⟩,
    ⟨renderRule brassKit_blind brassKit_draws .brass fun _ _ => rfl, iRateWaitsRule brassKit_blind .brass fun _ _ => rfl⟩⟩

end Sys2Proof.Machine

/-! PROOFS. 44_models_common.md: a block rendered in two parts is the block rendered at once (R285, R354), while no control changes and
no release fires (R280, R288). -/

namespace Sys2Proof.Machine

/-! ### A control update in which no control changed (R280, R284) -/

/-- Every k-rate control is the one its cache holds. -/
def ModelKit.Unchanged {M : Type} (k : ModelKit M) (m : M) : Prop := ∀ x ∈ k.kRate, (k.hdr m).cache.get x = (k.hdr m).ctl.get x

/-- A model whose control update does nothing where no control changed. -/
def ModelKit.Rests {M : Type} (k : ModelKit M) : Prop := ∀ c m fx, k.Unchanged m → k.recompute c false m fx = (m, fx)

theorem barKit_rests : barKit.Rests := by
  intro c m fx h
  have hx : ∀ x ∈ barKit.kRate, m.hdr.changed false x = false := fun x hx => Hdr.changed_false (h x hx)
  show m.recompute c false fx = (m, fx)
  simp (disch := decide) [Bar.recompute_eq, Bar.retune, hx]

theorem clarKit_rests : clarKit.Rests := by
  intro c m fx h
  have hx : ∀ x ∈ clarKit.kRate, m.hdr.changed false x = false := fun x hx => Hdr.changed_false (h x hx)
  show m.recompute c false fx = (m, fx)
  simp (disch := decide) [Clar.recompute_eq, Clar.retune, Vib.retune, hx]

theorem fluteKit_rests : fluteKit.Rests := by
  intro c m fx h
  have hx : ∀ x ∈ fluteKit.kRate, m.hdr.changed false x = false := fun x hx => Hdr.changed_false (h x hx)
  show m.recompute c false fx = (m, fx)
  simp (disch := decide) [Flute.recompute_eq, Flute.retune, Vib.retune, hx]

theorem bowedKit_rests : bowedKit.Rests := by
  intro c m fx h
  have hx : ∀ x ∈ bowedKit.kRate, m.hdr.changed false x = false := fun x hx => Hdr.changed_false (h x hx)
  show m.recompute c false fx = (m, fx)
  simp (disch := decide) [Bowed.recompute_eq, Bowed.retune, Vib.retune, hx]

theorem brassKit_rests : brassKit.Rests := by
  intro c m fx h
  have hx : ∀ x ∈ brassKit.kRate, m.hdr.changed false x = false := fun x hx => Hdr.changed_false (h x hx)
  show m.recompute c false fx = (m, fx)
  simp (disch := decide) [Brass.recompute_eq, Brass.retune, Vib.retune, hx]

/-! ### Samples after other samples

Inside a sample loop the effects gathered before a sample change nothing of it: they stand beside what it adds. -/

/-- The effects `fx` after others that set the warnings `w` and the error `e`. -/
def Fx.after (fx : Fx) (w e : U32) : Fx := { fx with warns := w ||| fx.warns, raised := e }

/-- Any effects are a fresh start after what they gathered. -/
theorem Fx.eq_after (fx : Fx) : fx = Fx.after { fx with warns := 0, raised := 0 } fx.warns fx.raised := by
  simp [Fx.after]

section
variable {fx : Fx} (hs : fx.strict = false) (w e : U32)

include hs

theorem Fx.warn_after (w' : U32) : (fx.after w e).warn w' = (fx.warn w').after w e := by
  simp [Fx.after, Fx.warn, Fx.stopped, hs, BitVec.or_assoc]

theorem Fx.absorb_after {α : Type} (u : α) (r : Res α) :
    (fx.after w e).absorb u r = ((fx.absorb u r).1, (fx.absorb u r).2.after w e) := by
  cases r with
  | ok w' a => rw [Fx.absorb_ok, Fx.absorb_ok, Fx.warn_after hs]
  | raise w' e' =>
    rw [Fx.absorb_raise, Fx.absorb_raise, Fx.warn_after hs, Fx.raise_loop (by simpa [Fx.after] using hs),
      Fx.raise_loop (by simpa using hs)]

theorem Vib.tickPrivate_after (c : Ctx) (u : Vib) :
    u.tickPrivate c (fx.after w e) =
      ((u.tickPrivate c fx).1, (u.tickPrivate c fx).2.1, (u.tickPrivate c fx).2.2.after w e) := by
  have htick : u.tick c (fx.after w e) = (u.tick c fx).map fun r => (r.1, r.2.1, r.2.2.after w e) := by
    unfold Vib.tick Res.require
    split <;> rfl
  unfold Vib.tickPrivate
  rw [htick]
  cases ho : u.tick c fx with
  | ok w' r =>
    have hr : r.2.2.strict = false := (Vib.tick_ok_grows ho).strict.trans hs
    simp only [Res.map, Fx.warn_after hr]
  | raise w' e' =>
    have hdrawn : ({ fx with free := fx.free + 1 } : Fx).strict = false := hs
    have hdrawn' : ({ fx.after w e with free := (fx.after w e).free + 1 } : Fx).strict = false := hs
    simp only [Res.map, Fx.raise_loop hdrawn, Fx.raise_loop hdrawn']
    rfl

end

theorem Noise.tick_after (f : Fmt) (u : Noise) (fx : Fx) (w e : U32) :
    u.tick f (fx.after w e) = ((u.tick f fx).1, (u.tick f fx).2.1, (u.tick f fx).2.2.after w e) := by
  obtain ⟨_, _, _, _ | _, _⟩ := fx <;> rfl

/-- A model whose sample adds its effects to those gathered before, and does nothing else with them. -/
structure ModelKit.Adds {M : Type} (k : ModelKit M) : Prop where
  strict : ∀ c m fx, (k.sample c m fx).fx.strict = fx.strict
  sample : ∀ c m {fx : Fx} w e, fx.strict = false →
    k.sample c m (fx.after w e) = ⟨(k.sample c m fx).y, (k.sample c m fx).m, (k.sample c m fx).fx.after w e⟩

theorem barKit_adds : barKit.Adds where
  strict _ _ _ := rfl
  sample c m fx w e hs := by
    show Bar.sample c m (fx.after w e) = ⟨(Bar.sample c m fx).y, (Bar.sample c m fx).m, (Bar.sample c m fx).fx.after w e⟩
    simp only [Bar.sample]

theorem clarKit_adds : clarKit.Adds where
  strict c m fx := (clarKit_sound.sample c m fx).grows.strict
  sample c m fx w e hs := by
    have hdrawn : (m.ns.tick c.f fx).2.2.strict = false := (m.ns.tick_grows c.f fx).strict.trans hs
    show Clar.sample c m (fx.after w e) = ⟨(Clar.sample c m fx).y, (Clar.sample c m fx).m, (Clar.sample c m fx).fx.after w e⟩
    simp only [Clar.sample, Noise.tick_after, Vib.tickPrivate_after hdrawn]

theorem fluteKit_adds : fluteKit.Adds where
  strict c m fx := (fluteKit_sound.sample c m fx).grows.strict
  sample c m fx w e hs := by
    have hdrawn : (m.ns.tick c.f fx).2.2.strict = false := (m.ns.tick_grows c.f fx).strict.trans hs
    show Flute.sample c m (fx.after w e) = ⟨(Flute.sample c m fx).y, (Flute.sample c m fx).m, (Flute.sample c m fx).fx.after w e⟩
    simp only [Flute.sample, Noise.tick_after, Vib.tickPrivate_after hdrawn]

theorem Bowed.vibrate_after (c : Ctx) (m : Bowed) {fx : Fx} (w e : U32) (hs : fx.strict = false) :
    m.vibrate c (fx.after w e) = ((m.vibrate c fx).1, (m.vibrate c fx).2.after w e) := by
  have hticked : (m.vb.tickPrivate c fx).2.2.strict = false := (m.vb.tickPrivate_keeps c fx).1.strict.trans hs
  simp only [Bowed.vibrate, Vib.tickPrivate_after hs, Fx.absorb_after hticked]
  split <;> rfl

theorem bowedKit_adds : bowedKit.Adds where
  strict c m fx := (bowedKit_sound.sample c m fx).grows.strict
  sample c m fx w e hs := by
    show Bowed.sample c m (fx.after w e) = ⟨(Bowed.sample c m fx).y, (Bowed.sample c m fx).m, (Bowed.sample c m fx).fx.after w e⟩
    simp only [Bowed.sample, Bowed.vibrate_after c _ w e hs]

theorem brassKit_adds : brassKit.Adds where
  strict c m fx := (brassKit_sound.sample c m fx).grows.strict
  sample c m fx w e hs := by
    show Brass.sample c m (fx.after w e) = ⟨(Brass.sample c m fx).y, (Brass.sample c m fx).m, (Brass.sample c m fx).fx.after w e⟩
    simp only [Brass.sample, Vib.tickPrivate_after hs]

section
variable {M : Type} {k : ModelKit M}

theorem ModelKit.Adds.renderLoop_strict (ha : k.Adds) (c : Ctx) (n : Nat) (m : M) (fx : Fx) :
    (renderLoop k c n m fx).2.2.strict = fx.strict :=
  renderLoop_induction (P := fun _ fx' => fx'.strict = fx.strict) (fun m' fx' h => (ha.strict c m' fx').trans h) n m fx rfl

theorem ModelKit.Adds.renderLoop (ha : k.Adds) (c : Ctx) (n : Nat) (m : M) {fx : Fx} (w e : U32) (hs : fx.strict = false) :
    renderLoop k c n m (fx.after w e) =
      ((renderLoop k c n m fx).1, (renderLoop k c n m fx).2.1, (renderLoop k c n m fx).2.2.after w e) := by
  induction n generalizing m fx with
  | zero => rfl
  | succ n ih =>
    simp only [Machine.renderLoop, ha.sample c m w e hs]
    rw [ih _ ((ha.strict ..).trans hs)]

/-- A block of `a + b` samples is the first `a` and, from a fresh start, the other `b`, whose effects come after those of the first. -/
theorem ModelKit.Adds.renderLoop_parts (ha : k.Adds) {c : Ctx} {a b : Nat} {m : M} {fx : Fx} {first second : List Flt × M × Fx}
    (hs : fx.strict = false) (hfirst : Machine.renderLoop k c a m fx = first)
    (hsecond : Machine.renderLoop k c b first.2.1 { first.2.2 with warns := 0, raised := 0 } = second) :
    Machine.renderLoop k c (a + b) m fx =
      (first.1 ++ second.1, second.2.1, second.2.2.after first.2.2.warns first.2.2.raised) := by
  have hstrict : first.2.2.strict = false := hfirst ▸ (ha.renderLoop_strict c a m fx).trans hs
  have hafter : Machine.renderLoop k c b first.2.1 first.2.2 =
      (second.1, second.2.1, second.2.2.after first.2.2.warns first.2.2.raised) := by
    subst hsecond
    conv_lhs => rw [first.2.2.eq_after]
    exact ha.renderLoop c b first.2.1 _ _ hstrict
  rw [renderLoop_add, hfirst, hafter]

/-! ### RENDER of a steady model -/

/-- The state a RENDER leaves that wrote the words `r.1`, left the instance `r.2.1` and gathered the effects `r.2.2`. -/
def rendered (bank : State → List M) (put : State → List M → State) (n : Nat) (s : State) (r : List Flt × M × Fx) : State :=
  (put (s.after r.2.2.warns) ((bank s).set n r.2.1)).deliver r.1 r.2.2

section
variable {bank : State → List M} {put : State → List M → State} {cls n : Nat} {s : State} {m : M}

section
variable (hb : IsBank cls bank put) (r : List Flt × M × Fx)
include hb

theorem rendered_get (hm : (bank s)[n]? = some m) : (bank (rendered bank put n s r))[n]? = some r.2.1 := by
  rw [rendered, hb.get_deliver, hb.get_put, List.getElem?_set_self (List.getElem?_eq_some_iff.mp hm).1]

theorem rendered_ctx : (rendered bank put n s r).ctx = s.ctx := by cases hb <;> rfl

theorem rendered_status : (rendered bank put n s r).status = (s.after r.2.2.warns).status := by cases hb <;> rfl

end

theorem ModelKit.Blind.hdr_countDown (hk : k.Blind) (m : M) :
    k.hdr (k.countDown m) = { k.hdr m with counter := (k.hdr m).counter - 1 } := hk.hdr_setHdr ..

/-- The samples do not see the counter. -/
theorem ModelKit.Blind.renderLoop_countDown (hk : k.Blind) (c : Ctx) (n : Nat) (m : M) (fx : Fx) :
    renderLoop k c n (k.countDown m) fx =
      ((renderLoop k c n m fx).1, k.countDown (renderLoop k c n m fx).2.1, (renderLoop k c n m fx).2.2) := by
  rw [ModelKit.countDown, ModelKit.countDown, hk.renderLoop_setHdr c m fx (Hdr.agrees_counter ..), hk.hdr_renderLoop]

theorem steady_countDown (hk : k.Blind) (hst : Steady k k.kRate m) : k.Unchanged (k.countDown m) := by
  rw [ModelKit.Unchanged, hk.hdr_countDown]
  exact hst.2.2

/-- A RENDER of a steady instance counts down and runs its samples. -/
theorem modelRender_steady (hk : k.Blind) (hrest : k.Rests) (hb : IsBank cls bank put) (hm : (bank s)[n]? = some m)
    (hst : Steady k k.kRate m) {a : Nat} (ha : a < 2 ^ 32) :
    let asked := { s with iarg := BitVec.ofNat 32 a }
    modelRender k (bank asked) put n asked =
      .next (rendered bank put n asked (renderLoop k s.ctx a (k.countDown m) (s.fx false))) := by
  intro asked
  have hprep : renderPrep k s.ctx m (s.fx true) = (k.countDown m, s.fx true) :=
    renderPrep_steady hst.2.1 (hrest _ _ _ (steady_countDown hk hst)) hst.2.2 hk.hdr_setHdr hk.setHdr_setHdr
  have hbody : renderBody k asked.ctx asked.iarg.toNat m (asked.fx true) =
      .ok (renderLoop k s.ctx a (k.countDown m) (s.fx false)).2.2.warns
        (renderLoop k s.ctx a (k.countDown m) (s.fx false)) := by
    rw [show asked.iarg.toNat = a from Nat.mod_eq_of_lt ha]
    show renderBody k s.ctx a m (s.fx true) = _
    unfold renderBody
    rw [hprep]
    rfl
  exact modelRender_ok ((hb.get_iarg ..).symm ▸ hm) hst.1 hbody

/-- The sticky bits of two commands are those of one that sets the bits of both. -/
theorem sticky_two (s w w' : U32) :
    ((((s &&& ~~~0x8000#32) ||| w) &&& ~~~0x8000#32) ||| w') &&& 0xff#32 =
      ((s &&& ~~~0x8000#32) ||| (w ||| w')) &&& 0xff#32 := by
  have hmask (x : U32) : (x &&& ~~~0x8000#32) &&& 0xff#32 = x &&& 0xff#32 := by
    rw [BitVec.and_assoc, show ~~~0x8000#32 &&& 0xff#32 = 0xff#32 by decide]
  simp only [BitVec.and_or_distrib_right, hmask, BitVec.or_assoc]

theorem splitRule {ren : Nat → Instr} (hk : k.Blind) (hrest : k.Rests) (hadds : k.Adds) (hb : IsBank cls bank put)
    (hren : ∀ n s, exec (ren n) s = modelRender k (bank s) put n s) : SplitRule k bank ren k.kRate := by
  intro s n m a b hm hst h2 hab
  let first := renderLoop k s.ctx a (k.countDown m) (s.fx false)
  let t1 := rendered bank put n { s with iarg := BitVec.ofNat 32 a } first
  have hhdr : k.hdr first.2.1 = { k.hdr m with counter := (k.hdr m).counter - 1 } := by
    rw [hk.hdr_renderLoop, hk.hdr_countDown]
  have hm1 : (bank t1)[n]? = some first.2.1 := rendered_get hb first ((hb.get_iarg ..).symm ▸ hm)
  have hctx : t1.ctx = s.ctx := rendered_ctx hb first
  have hst1 : Steady k k.kRate first.2.1 := by
    rw [Steady, hhdr]
    exact ⟨hst.1, by dsimp only; omega, hst.2.2⟩
  let second := renderLoop k s.ctx b first.2.1 (t1.fx false)
  have hsecond : renderLoop k t1.ctx b (k.countDown first.2.1) (t1.fx false) =
      (second.1, k.countDown second.2.1, second.2.2) := by
    rw [hctx, hk.renderLoop_countDown]
  have hboth : renderLoop k s.ctx (a + b) (k.countDown m) (s.fx false) =
      (first.1 ++ second.1, second.2.1, second.2.2.after first.2.2.warns first.2.2.raised) := by
    have hfresh : ({ first.2.2 with warns := 0, raised := 0 } : Fx) = t1.fx false := by
      show Fx.mk 0 0 first.2.2.strict _ _ = Fx.mk 0 0 false _ _
      rw [hadds.renderLoop_strict]
      rfl
    exact hadds.renderLoop_parts rfl rfl (by rw [hfresh])
  have hr1 := modelRender_steady hk hrest hb hm hst (a := a) (by omega)
  have hr2 := modelRender_steady hk hrest hb hm1 hst1 (a := b) (by omega)
  have hr := modelRender_steady hk hrest hb hm hst hab
  rw [hsecond] at hr2
  rw [hboth] at hr
  have hlen1 : first.1.length = a := renderLoop_length ..
  have hlen2 : second.1.length = b := renderLoop_length ..
  refine ⟨t1, _, _, _, _, (hren ..).trans hr1, (hren ..).trans hr2, (hren ..).trans hr, fun j hj => ?words, fun j hj => ?rest,
    rendered_get hb _ ((hb.get_iarg ..).symm ▸ hm1), rendered_get hb _ ((hb.get_iarg ..).symm ▸ hm), ?model, rfl, rfl, ?status⟩
  case words =>
    exact (State.deliver_read _ _ (by simp; omega)).trans
      ((List.getElem?_append_left (hlen1.symm ▸ hj)).trans (State.deliver_read _ _ (hlen1.symm ▸ hj)).symm)
  case rest =>
    refine (State.deliver_read _ _ (by simp; omega)).trans (Eq.trans ?_ (State.deliver_read _ _ (hlen2.symm ▸ hj)).symm)
    rw [List.getElem?_append_right (by omega), hlen1, Nat.add_sub_cancel_left]
  case model =>
    have hsame : k.hdr second.2.1 = { k.hdr m with counter := (k.hdr m).counter - 1 } := (hk.hdr_renderLoop ..).trans hhdr
    show k.countDown second.2.1 = k.setHdr _ second.2.1
    rw [ModelKit.countDown, hsame, Int.sub_sub]
    rfl
  case status =>
    rw [rendered_status hb, rendered_status hb, rendered_status hb]
    exact sticky_two ..

end

end

/-- Settles O54: `splitRule` for each model, whose control update rests while no control changes and whose samples gather their effects
one after another. -/
theorem renderBlocksCompose : Obligations.RenderBlocksCompose :=
  ⟨splitRule barKit_blind barKit_rests barKit_adds .bar fun _ _ => rfl,
    splitRule clarKit_blind clarKit_rests clarKit_adds .clar fun _ _ => rfl,
    splitRule fluteKit_blind fluteKit_rests fluteKit_adds .flute fun _ _ => rfl,
    splitRule bowedKit_blind bowedKit_rests bowedKit_adds .bowed fun _ _ => rfl,
    splitRule brassKit_blind brassKit_rests brassKit_adds .brass fun _ _ => rfl⟩

end Sys2Proof.Machine

/-! PROOFS. 44_models_common.md: after RELEASE the envelope falls (R288-R290), model by model (45_models.md R311, R326, R336, R346,
R352). -/

namespace Sys2Proof.Machine

/-! ### The envelope of a model

What RENDER does with the target, the phase and the rate of the envelope, `env m`: the release action alone changes them once the
envelope is in its Release phase. -/

/-- The release action sets the envelope `env` falling to 0 at `rate s m`, or raises an error where a rate taken from a time
(`fromTime`) is not a number; nothing else that a RENDER does in the Release phase changes the envelope. -/
structure ModelKit.Falls {M : Type} (k : ModelKit M) (env : M → Flt × Phase × Flt) (fromTime : Bool)
    (rate : State → M → Flt) : Prop where
  setHdr : ∀ h m, env (k.setHdr h m) = env m
  sample : ∀ c m fx, env (k.sample c m fx).m = env m
  recompute : ∀ c all m fx, (env m).2.1 = .release → env (k.recompute c all m fx).1 = env m
  release : ∀ (s : State) m (fx : Fx), fx.strict = true → (k.release s.ctx m fx).2.raised = 0#32 →
    env (k.release s.ctx m fx).1 = (0#64, .release, rate s m)
  unraised : ∀ (s : State) m fx, (fromTime = true → s.params.fmt.isNaN (rate s m) = false) →
    (k.release s.ctx m fx).2.raised = fx.raised
  rate_setHdr : ∀ s m (h : Hdr), h.iCtl = (k.hdr m).iCtl → rate s (k.setHdr h m) = rate s m

section
variable {M : Type} {k : ModelKit M} {env : M → Flt × Phase × Flt} {fromTime : Bool} {rate : State → M → Flt}
  {Wf Ready : Params → M → Prop} {s : State} {m : M} {fx : Fx}

theorem ModelKit.Falls.env_renderLoop (hf : k.Falls env fromTime rate) (c : Ctx) (n : Nat) (m : M) (fx : Fx) :
    env (renderLoop k c n m fx).2.1 = env m :=
  renderLoop_induction (P := fun m' _ => env m' = env m) (fun m' fx' h => (hf.sample c m' fx').trans h) n m fx rfl

/-- The release step of a RENDER after RELEASE (R288, R289). -/
theorem releaseStep_fires (c : Ctx) (h1 : (k.hdr m).counter = 1) : releaseStep k c m fx = k.release c (k.countDown m) fx := by
  rw [releaseStep_eq, if_pos (by omega)]

/-- What a RENDER does before its samples, after RELEASE. -/
theorem renderPrep_fires (c : Ctx) (h1 : (k.hdr m).counter = 1) :
    renderPrep k c m fx = controlUpdate k c false (k.release c (k.countDown m) fx).1 (k.release c (k.countDown m) fx).2 := by
  rw [renderPrep, releaseStep_fires c h1]

theorem ModelKit.Falls.rate_countDown (hf : k.Falls env fromTime rate) (s : State) (m : M) : rate s (k.countDown m) = rate s m :=
  hf.rate_setHdr s m _ rfl

/-- Where the release step and the control update raise nothing, the envelope falls. -/
theorem ModelKit.Falls.env_renderPrep (hf : k.Falls env fromTime rate) (hs : k.Sound Wf Ready) (h1 : (k.hdr m).counter = 1)
    (hstrict : fx.strict = true) (h0 : (renderPrep k s.ctx m fx).2.raised = 0#32) :
    env (renderPrep k s.ctx m fx).1 = (0#64, .release, rate s m) := by
  rw [renderPrep_fires s.ctx h1] at h0 ⊢
  have hrel := hf.release s (k.countDown m) fx hstrict ((hs.controlUpdate s.ctx false _ _).grows.unraised h0)
  rw [controlUpdate, hf.setHdr, hf.recompute _ _ _ _ (by rw [hrel]), hrel, hf.rate_countDown]

/-- Where no control changed and a rate taken from a time is a number, they raise nothing. -/
theorem ModelKit.Falls.raised_renderPrep (hf : k.Falls env fromTime rate) (hk : k.Blind) (hrest : k.Rests)
    (h1 : (k.hdr m).counter = 1) (hclean : k.Unchanged m) (hnum : fromTime = true → s.params.fmt.isNaN (rate s m) = false) :
    (renderPrep k s.ctx m fx).2.raised = fx.raised := by
  have hreleased : k.Unchanged (k.release s.ctx (k.countDown m) fx).1 := by
    rw [ModelKit.Unchanged, hk.hdr_release, hk.hdr_countDown]
    exact hclean
  rw [renderPrep_fires s.ctx h1, controlUpdate, hrest _ _ _ hreleased]
  exact hf.unraised s _ fx (by rwa [hf.rate_countDown])

/-! ### RELEASE and the RENDER after it -/

/-- An abandoned command ends with CMD_FAIL set. -/
theorem State.after_failed (s : State) (b : U32) : ¬ (s.after (b ||| 0x8000#32)).status &&& 0x8000#32 = 0#32 := by
  rw [State.after_cmdFail, BitVec.and_or_distrib_right, BitVec.and_self]
  intro h
  have hbit := congrArg (fun w : U32 => w.getLsbD 15) h
  simp at hbit

theorem releaseFallsRule {bank : State → List M} {put : State → List M → State} {cls : Nat} {rel ren : Nat → Instr}
    (hf : k.Falls env fromTime rate) (hk : k.Blind) (hrest : k.Rests) (hs : k.Sound Wf Ready) (hb : IsBank cls bank put)
    (hrel : ∀ n s, exec (rel n) s = modelRelease k (bank s) put n s)
    (hren : ∀ n s, exec (ren n) s = modelRender k (bank s) put n s) :
    ReleaseFallsRule k bank rel ren k.kRate env fromTime rate := by
  intro s n m b hm hr
  let released := k.setHdr { k.hdr m with counter := 1 } m
  let t1 := put (s.after 0#32) ((bank s).set n released)
  let asked : State := { t1 with iarg := b }
  have hctx : asked.ctx = s.ctx := (hb.put_operands (s.after 0#32) ((bank s).set n released)).1
  have hhdr : k.hdr released = { k.hdr m with counter := 1 } := hk.hdr_setHdr ..
  have hm' : (bank asked)[n]? = some released := by
    rw [hb.get_iarg, hb.get_put, List.getElem?_set_self (List.getElem?_eq_some_iff.mp hm).1]
  have hr' : (k.hdr released).mstate = .running := by rwa [hhdr]
  have h1 : (k.hdr released).counter = 1 := by rw [hhdr]
  have hrate : rate s released = rate s m := hf.rate_setHdr s m _ rfl
  have hrel' : exec (rel n) s = .next t1 := (hrel n s).trans (modelRelease_running hm hr)
  have hsignals := hs.renderBody_signals asked.ctx asked.iarg.toNat released (asked.fx_lawful true)
  cases ho : renderBody k asked.ctx asked.iarg.toNat released (asked.fx true) with
  | raise w e =>
    refine ⟨t1, _, released, hrel', (hren ..).trans (modelRender_raise hm' hr' ho), (hb.get_after ..).symm ▸ hm',
      fun h => absurd h (State.after_failed _ _), fun hclean hnum => ?_⟩
    have hquiet : (renderPrep k asked.ctx released (asked.fx true)).2.raised = 0#32 := by
      rw [hctx]
      exact hf.raised_renderPrep hk hrest h1 (by rw [ModelKit.Unchanged, hhdr]; exact hclean) (by rwa [hrate])
    rcases renderBody_cases k asked.ctx asked.iarg.toNat released (asked.fx true) with ⟨hraised, -⟩ | ⟨-, hok⟩
    · exact absurd hquiet hraised
    · rw [hok] at ho
      cases ho
  | ok w r =>
    rw [ho] at hsignals
    obtain ⟨hw⟩ := hsignals
    obtain ⟨h0, rfl, hr⟩ := renderBody_ok ho
    refine ⟨t1, _, r.2.1, hrel', (hren ..).trans (modelRender_ok hm' hr' ho), rendered_get hb r hm', fun _ => ?_, fun _ _ => ?_⟩
    · rw [hctx] at h0 hr
      rw [hr, hf.env_renderLoop, hf.env_renderPrep hs h1 rfl h0, hrate]
    · rw [← rendered, rendered_status hb, State.after_cmdFail, hw.cmdFail]

end

/-! ### The release actions of the five models (R290) -/

theorem isNaN_fallRate (s : State) (h : Hdr) :
    s.params.fmt.isNaN (fallRate s h) = s.params.fmt.isNaN (noteRate s (h.ci ctlRelTime)) := by
  unfold fallRate
  dsimp only
  split
  · exact Fmt.isNaN_abs ..
  · rfl

theorem fallRate_iCtl (s : State) {h h' : Hdr} (hi : h'.iCtl = h.iCtl) : fallRate s h' = fallRate s h := by
  unfold fallRate
  rw [hi]

/-- A rate taken from RELTIME, where it is a number, is stored as `fallRate` and raises nothing; where it is not, it raises. -/
theorem absorb_fallRate {α : Type} (s : State) (h : Hdr) (fx : Fx) (u : α) {store : Flt → α} {r : Res α}
    (hr : r = (rateOperand s.params.fmt (s.ctx.rateOf (h.ci ctlRelTime))).map store) :
    (s.params.fmt.isNaN (fallRate s h) = false ∧ (fx.absorb u r).1 = store (fallRate s h) ∧ (fx.absorb u r).2.raised = fx.raised)
      ∨ (s.params.fmt.isNaN (fallRate s h) = true ∧ (fx.strict = true → (fx.absorb u r).2.raised ≠ 0#32)) := by
  subst hr
  rw [isNaN_fallRate, rateOf_ctx]
  cases hn : s.params.fmt.isNaN (noteRate s (h.ci ctlRelTime)) with
  | false => exact .inl ⟨rfl, by rw [rateOperand_number hn]; exact ⟨rfl, Fx.warn_raised ..⟩⟩
  | true =>
    refine .inr ⟨rfl, fun hs => ?_⟩
    rw [rateOperand_nan hn]
    exact Fx.raise_ne_zero (e := errOperand) ((Fx.warn_strict ..).trans hs) (by decide)

/-- The target, the phase and the rate of an ADSR or of a breath envelope. -/
abbrev Adsr.course (u : Adsr) : Flt × Phase × Flt := (u.target, u.phase, u.rate)
/-- See `Adsr.course`. -/
abbrev Env.course (u : Env) : Flt × Phase × Flt := (u.target, u.phase, u.rate)

section
variable (s : State) (h : Hdr) (u : Adsr) (fx : Fx)

theorem Adsr.letGo_course (hs : fx.strict = true) (h0 : (u.letGo s.ctx h fx).2.raised = 0#32) :
    (u.letGo s.ctx h fx).1.course = (0#64, .release, fallRate s h) := by
  rcases absorb_fallRate s h fx u (store := fun r => { u with releaseRate := r }) rfl with ⟨-, hset, -⟩ | ⟨-, hraised⟩
  · exact congrArg (fun v : Adsr => v.keyoff.course) hset
  · exact absurd h0 (hraised hs)

theorem Adsr.letGo_raised (hnum : s.params.fmt.isNaN (fallRate s h) = false) : (u.letGo s.ctx h fx).2.raised = fx.raised := by
  rcases absorb_fallRate s h fx u (store := fun r => { u with releaseRate := r }) rfl with ⟨-, -, hraised⟩ | ⟨hnan, -⟩
  · exact hraised
  · exact absurd (hnan.symm.trans hnum) (by decide)

end

theorem Bar.drive_course (c : Ctx) (m : Bar) : (Bar.drive c m).ad.course = m.ad.course := by
  unfold Bar.drive
  split <;> rfl

theorem Bowed.vibrate_ad (c : Ctx) (m : Bowed) (fx : Fx) : (m.vibrate c fx).1.ad = m.ad := by
  unfold Bowed.vibrate
  split <;> rfl

theorem barKit_falls : barKit.Falls (fun m => m.ad.course) false fun _ m => m.ad.releaseRate where
  setHdr _ _ := rfl
  sample c m _ := Bar.drive_course c { m with vEst := Bar.estimate c m }
  recompute c all m fx _ := by
    show (m.recompute c all fx).1.ad.course = m.ad.course
    rw [Bar.recompute_eq]
  release _ _ _ _ _ := rfl
  unraised _ _ _ _ := rfl
  rate_setHdr _ _ _ _ := rfl

/-- An AMP change moves the breath target in the Attack phase only (R323). -/
theorem clarKit_falls : clarKit.Falls (fun m => m.env.course) true fun s m => fallRate s m.hdr where
  setHdr _ _ := rfl
  sample _ _ _ := rfl
  recompute c all m fx hp := by
    have hphase : m.env.phase = .release := hp
    show (m.recompute c all fx).1.env.course = m.env.course
    simp [Clar.recompute_eq, hphase]
  release s m fx hs h0 := by
    rcases absorb_fallRate s m.hdr fx m.env (store := fun r => { m.env with rate := r }) rfl with ⟨-, hset, -⟩ | ⟨-, hraised⟩
    · exact congrArg (fun v : Env => v.keyoff.course) hset
    · exact absurd h0 (hraised hs)
  unraised s m fx hnum := by
    rcases absorb_fallRate s m.hdr fx m.env (store := fun r => { m.env with rate := r }) rfl with ⟨-, -, hraised⟩ | ⟨hnan, -⟩
    · exact hraised
    · exact absurd (hnan.symm.trans (hnum rfl)) (by decide)
  rate_setHdr s _ _ := fallRate_iCtl s

theorem fluteKit_falls : fluteKit.Falls (fun m => m.ad.course) true fun s m => fallRate s m.hdr where
  setHdr _ _ := rfl
  sample _ _ _ := rfl
  recompute c all m fx _ := by
    show (m.recompute c all fx).1.ad.course = m.ad.course
    rw [Flute.recompute_eq]
  release s m := Adsr.letGo_course s m.hdr m.ad
  unraised s m fx hnum := Adsr.letGo_raised s m.hdr m.ad fx (hnum rfl)
  rate_setHdr s _ _ := fallRate_iCtl s

theorem bowedKit_falls : bowedKit.Falls (fun m => m.ad.course) false fun _ m => m.ad.releaseRate where
  setHdr _ _ := rfl
  sample c m fx := by
    show (Bowed.sample c m fx).m.ad.course = m.ad.course
    simp only [Bowed.sample, Bowed.vibrate_ad]
    rfl
  recompute c all m fx _ := by
    show (m.recompute c all fx).1.ad.course = m.ad.course
    rw [Bowed.recompute_eq]
  release _ _ _ _ _ := rfl
  unraised _ _ _ _ := rfl
  rate_setHdr _ _ _ _ := rfl

theorem brassKit_falls : brassKit.Falls (fun m => m.ad.course) true fun s m => fallRate s m.hdr where
  setHdr _ _ := rfl
  sample _ _ _ := rfl
  recompute c all m fx _ := by
    show (m.recompute c all fx).1.ad.course = m.ad.course
    rw [Brass.recompute_eq]
  release s m := Adsr.letGo_course s m.hdr m.ad
  unraised s m fx hnum := Adsr.letGo_raised s m.hdr m.ad fx (hnum rfl)
  rate_setHdr s _ _ := fallRate_iCtl s

/-- Settles O55: `releaseFallsRule` for each model, whose release action sets the envelope falling and whose other rules leave a
falling envelope alone. -/
theorem releaseMakesEnvelopeFall : Obligations.ReleaseMakesEnvelopeFall :=
  ⟨releaseFallsRule barKit_falls barKit_blind barKit_rests barKit_sound .bar (fun _ _ => rfl) fun _ _ => rfl,
    releaseFallsRule clarKit_falls clarKit_blind clarKit_rests clarKit_sound .clar (fun _ _ => rfl) fun _ _ => rfl,
    releaseFallsRule fluteKit_falls fluteKit_blind fluteKit_rests fluteKit_sound .flute (fun _ _ => rfl) fun _ _ => rfl,
    releaseFallsRule bowedKit_falls bowedKit_blind bowedKit_rests bowedKit_sound .bowed (fun _ _ => rfl) fun _ _ => rfl,
    releaseFallsRule brassKit_falls brassKit_blind brassKit_rests brassKit_sound .brass (fun _ _ => rfl) fun _ _ => rfl⟩

end Sys2Proof.Machine

/-! PROOFS. 44_models_common.md: RENDER is a function of its instance, the controls, SR, KR, the tables and the draws (R354). -/

namespace Sys2Proof.Machine

section
variable {M : Type} {cls n : Nat} {bank : State → List M} {put : State → List M → State}

/-- What the rule of RENDER answers for the instance its word names, where there is one. -/
def renderAnswer (k : ModelKit M) (c : Ctx) (samples : Nat) (fx : Fx) : Option M → Res (List Flt × M × Fx)
  | none => .raise 0 errIllegal
  | some m => if (k.hdr m).mstate = .running then renderBody k c samples m fx else .raise 0 errState

/-- The state in which RENDER leaves `s` with that answer. -/
def State.answered (s : State) (put : State → List M → State) (b : List M) (n : Nat) : Res (List Flt × M × Fx) → State
  | .raise w e => s.after (w ||| e ||| 0x8000#32)
  | .ok w r => (put (s.after w) (b.set n r.2.1)).deliver r.1 r.2.2

theorem modelRender_answer (k : ModelKit M) (b : List M) (put : State → List M → State) (n : Nat) (s : State) :
    modelRender k b put n s = .next (s.answered put b n (renderAnswer k s.ctx s.iarg.toNat (s.fx true) b[n]?)) := by
  rw [← State.iargNat_eq]
  unfold modelRender renderAnswer
  cases b[n]? with
  | none => rfl
  | some m =>
    dsimp only
    split
    · cases renderBody k s.ctx s.iargNat m (s.fx true) <;> rfl
    · rfl

/-- An answer that completes has an instance, and as many words as IARG asks for. -/
theorem renderAnswer_ok {k : ModelKit M} {c : Ctx} {samples : Nat} {fx : Fx} {m : Option M} {w : U32} {r : List Flt × M × Fx}
    (h : renderAnswer k c samples fx m = .ok w r) : m ≠ none ∧ r.1.length = samples := by
  unfold renderAnswer at h
  split at h
  · cases h
  · split at h
    · exact ⟨Option.some_ne_none _, renderBody_length h⟩
    · cases h

theorem IsBank.sameInstance_iff {α : Type} {get : State → List α} {put : State → List α → State} (hb : IsBank cls get put)
    (s t : State) (j : Nat) : s.sameInstance t cls j ↔ (get t)[j]? = (get s)[j]? := by
  cases hb <;> exact Iff.rfl

/-- A block laid over two output memories that agree on a word leaves them in agreement on it. -/
theorem outBlock_agrees {a : Nat} {out out' : List (Nat × Flt)} (words : List Flt) (h : outRead a out' = outRead a out) :
    outRead a (outBlock 0 words out') = outRead a (outBlock 0 words out) := by
  rcases Nat.lt_or_ge a words.length with ha | ha
  · have hread (o : List (Nat × Flt)) : outRead a (outBlock 0 words o) = some words[a] := by
      simpa only [Nat.zero_add] using outBlock_read (n := 0) ha o
    rw [hread, hread]
  · rw [outBlock_above (by omega), outBlock_above (by omega), h]

/-- Two states with the same instance and the same draws, in which RENDER has the same answer, keep what they agree on and agree on
what the answer makes of them. -/
theorem IsBank.answered_agree (hb : IsBank cls bank put) {s s' : State} {ans : Res (List Flt × M × Fx)} {samples : Nat}
    (hok : ∀ {w r}, ans = .ok w r → (bank s)[n]? ≠ none ∧ r.1.length = samples)
    (hsame : (bank s')[n]? = (bank s)[n]?) (hnoise : s'.noiseIn = s.noiseIn) (hfree : s'.free = s.free) :
    let t := s.answered put (bank s) n ans
    let t' := s'.answered put (bank s') n ans
    t.sameInstance t' cls n ∧ t'.noiseIn = t.noiseIn ∧ t'.free = t.free
      ∧ (∃ w, t.status = (s.after w).status ∧ t'.status = (s'.after w).status)
      ∧ (t.status &&& 0x8000#32 = 0#32 → ∀ a < samples, outRead a t'.out = outRead a t.out)
      ∧ ∀ a, outRead a s'.out = outRead a s.out → outRead a t'.out = outRead a t.out := by
  intro t t'
  rw [hb.sameInstance_iff]
  cases ans with
  | raise w e =>
    refine ⟨?_, hnoise, hfree, ⟨_, rfl, rfl⟩, fun h => absurd h (s.after_failed _), fun a ha => ha⟩
    show (bank (s'.after _))[n]? = (bank (s.after _))[n]?
    rw [hb.get_after, hb.get_after, hsame]
  | ok w r =>
    obtain ⟨hsome, hlen⟩ := hok rfl
    have hn : n < (bank s).length := by simpa using hsome
    have hn' : n < (bank s').length := by simpa using (hsame ▸ hsome : (bank s')[n]? ≠ none)
    have hstatus (u : State) (b : List M) : ((put (u.after w) b).deliver r.1 r.2.2).status = (u.after w).status := by
      cases hb <;> rfl
    refine ⟨?_, rfl, rfl, ⟨w, hstatus .., hstatus ..⟩, fun _ a ha => ?_, fun a ha => outBlock_agrees _ ?_⟩
    · show (bank ((put _ _).deliver _ _))[n]? = (bank ((put _ _).deliver _ _))[n]?
      rw [hb.get_deliver, hb.get_deliver, hb.get_put, hb.get_put, List.getElem?_set_self hn, List.getElem?_set_self hn']
    · exact (State.deliver_read _ _ (hlen.symm ▸ ha)).trans (State.deliver_read _ _ (hlen.symm ▸ ha)).symm
    · rw [hb.put_out, hb.put_out]
      exact ha

/-- RENDER in two states that agree on all it reads has one answer. -/
theorem IsBank.modelRender_agree (hb : IsBank cls bank put) {k : ModelKit M} {s s' t t' : State}
    (h : modelRender k (bank s) put n s = .next t) (h' : modelRender k (bank s') put n s' = .next t')
    (hsame : s.sameInstance s' cls n) (hp : s'.params = s.params) (hsr : s'.sr = s.sr) (hkr : s'.kr = s.kr)
    (htab : s'.tables = s.tables) (hiarg : s'.iarg = s.iarg) (hnoise : s'.noiseIn = s.noiseIn) (hfree : s'.free = s.free) :
    t.sameInstance t' cls n ∧ t'.noiseIn = t.noiseIn ∧ t'.free = t.free
      ∧ (∃ w, t.status = (s.after w).status ∧ t'.status = (s'.after w).status)
      ∧ (t.status &&& 0x8000#32 = 0#32 → ∀ a < s.iarg.toNat, outRead a t'.out = outRead a t.out)
      ∧ ∀ a, outRead a s'.out = outRead a s.out → outRead a t'.out = outRead a t.out := by
  have hctx : s'.ctx = s.ctx := by simp only [State.ctx, hp, hsr, hkr, htab]
  have hfx : s'.fx true = s.fx true := by simp only [State.fx, hnoise, hfree]
  have hinst : (bank s')[n]? = (bank s)[n]? := (hb.sameInstance_iff s s' n).mp hsame
  rw [modelRender_answer] at h h'
  rw [hctx, hiarg, hfx, hinst] at h'
  cases h
  cases h'
  exact hb.answered_agree renderAnswer_ok hinst hnoise hfree

end

/-- Settles O17: a RENDER is `modelRender` on its bank, and `IsBank.modelRender_agree` says what that depends on. -/
theorem renderIsAFunctionOfItsInputs : Obligations.RenderIsAFunctionOfItsInputs := by
  intro i s s' t t' hi h h'
  cases i with
  | barRender n => exact IsBank.bar.modelRender_agree h h'
  | clarRender n => exact IsBank.clar.modelRender_agree h h'
  | fluteRender n => exact IsBank.flute.modelRender_agree h h'
  | bowedRender n => exact IsBank.bowed.modelRender_agree h h'
  | brassRender n => exact IsBank.brass.modelRender_agree h h'
  | _ => cases hi

end Sys2Proof.Machine

/-! PROOFS. 45_models.md: the RENDER of one sample and the RENDER of none, whatever the model (R280, R284, R285, R288). -/

namespace Sys2Proof.Machine

section
variable {M : Type} {k : ModelKit M} {bank : State → List M} {put : State → List M → State} {cls n : Nat} {ren : Nat → Instr}
  {s : State} {m : M}

/-! ### One sample of a steady model -/

/-- A RENDER of one sample of a steady instance is its SampleStep; beside it the counter counts down. -/
theorem exec_render_sample (hk : k.Blind) (hrest : k.Rests) (hb : IsBank cls bank put)
    (hren : ∀ n s, exec (ren n) s = modelRender k (bank s) put n s) (hm : (bank s)[n]? = some m) (hst : Steady k k.kRate m)
    (hi : s.iarg = 1#32) {r : Smp M} (hr : k.sample s.ctx m (s.fx false) = r) :
    exec (ren n) s = .next ((put (s.after r.fx.warns) ((bank s).set n (k.countDown r.m))).deliver [r.y] r.fx) := by
  have hloop : renderLoop k s.ctx 1 (k.countDown m) (s.fx false) = ([r.y], k.countDown r.m, r.fx) := by
    rw [hk.renderLoop_countDown, ← hr]
    rfl
  have hone := modelRender_steady hk hrest hb hm hst (a := 1) (by decide)
  dsimp only at hone
  rw [hloop, show BitVec.ofNat 32 1 = s.iarg from hi.symm] at hone
  exact (hren n s).trans hone

/-! ### The control update of a RENDER -/

/-- The header a RENDER leaves: the counter one less, the caches of the controls it reads refreshed (R280, R288). -/
def updatedHdr (ks : List (Fin 16)) (h : Hdr) : Hdr := { h.refresh ks with counter := h.counter - 1 }

theorem renderPrep_of_recompute (hk : k.Blind) {c : Ctx} {fx fx' : Fx} {r : M} (h1 : (k.hdr m).counter ≠ 1)
    (hr : k.recompute c false m fx = (r, fx')) :
    renderPrep k c m fx = (k.setHdr (updatedHdr k.kRate (k.hdr m)) r, fx') := by
  have hcount : k.recompute c false (k.countDown m) fx = (k.setHdr { k.hdr m with counter := (k.hdr m).counter - 1 } r, fx') := by
    rw [ModelKit.countDown, hk.recompute c false m fx (Hdr.agrees_counter ..), hr]
  unfold renderPrep
  rw [releaseStep_eq, if_neg (by omega)]
  simp only [controlUpdate, hcount, hk.hdr_setHdr, hk.setHdr_setHdr]
  rfl

/-- A RENDER of no samples in which no release fires: what the recompute actions leave, and the header. -/
theorem updated_of (hk : k.Blind) (hb : IsBank cls bank put) (hren : ∀ n s, exec (ren n) s = modelRender k (bank s) put n s)
    (hm : (bank s)[n]? = some m) (hu : Updates k s m) {r : M} {w : U32}
    (hr : k.recompute s.ctx false m (s.fx true) = (r, (s.fx true).warn w)) :
    Updated k bank put ren k.kRate s n m (k.setHdr (updatedHdr k.kRate (k.hdr m)) r) w := by
  obtain ⟨hrun, h1, hi⟩ := hu
  have hbody : renderBody k s.ctx s.iarg.toNat m (s.fx true) =
      .ok w ([], k.setHdr (updatedHdr k.kRate (k.hdr m)) r, { s.fx false with warns := w }) := by
    rw [hi]
    unfold renderBody
    rw [renderPrep_of_recompute hk h1 hr, State.fx_warn]
    rfl
  unfold Updated
  rw [hren, modelRender_ok hm hrun hbody, hk.hdr_setHdr]
  refine ⟨?_, rfl, (k.hdr m).refresh_cache_get k.kRate⟩
  cases hb <;> rfl

end

/-! ### The parts of a control update that several models share -/

theorem Hdr.changed_iff_dirty (h : Hdr) (x : Fin 16) : h.changed false x = true ↔ h.dirty x := by
  rw [Hdr.changed, Bool.false_or, bne_iff_ne, ne_comm]

/-- The vibrato takes VIBFREQ where that changed (44_models_common.md R291). -/
theorem Vib.retune_dirty {s : State} {h : Hdr} (u : Vib) (fx : Fx)
    (hready : h.dirty 6 → s.params.fmt.lt 0#64 s.sr = true ∧ s.params.fmt.isFinite (h.ctl.get 6) = true) :
    u.retune s.ctx false fx h = (if h.dirty 6 then u.at s (h.ctl.get 6) else u, fx) := by
  simp only [Vib.retune, Hdr.changed_iff_dirty]
  split
  · next hd =>
    have hset : u.setfreq s.ctx (h.c ctlVibFreq) = .ok 0 (u.at s (h.ctl.get 6)) :=
      Vib.setfreq_ok (c := s.ctx) u (hready hd).1 (hready hd).2
    rw [hset, Fx.absorb_done]
  · rfl

/-- A noise generator at the start of a command (43_tables_noise_vibrato.md R250). -/
theorem Noise.tick_fresh (s : State) (u : Noise) :
    u.tick s.params.fmt (s.fx false) =
      ((drawStep s).1, ⟨(drawStep s).1⟩, { s.fx false with noise := (drawStep s).2.1, free := (drawStep s).2.2 }) := by
  rw [Noise.tick, draw_eq]

/-- A vibrato after the noise generator of the same sample. -/
theorem Vib.tickPrivate_drawn (s : State) {u : Vib} (hlen : 0 < u.len) (noise : List Flt) (free : Nat) :
    u.tickPrivate s.ctx { s.fx false with noise := noise, free := free } =
      ((vibStep s u free).1, (vibStep s u free).2.1, { s.fx false with noise := noise, free := (vibStep s u free).2.2 }) :=
  Vib.tickPrivate_eq s u _ hlen rfl

end Sys2Proof.Machine

/-! PROOFS. 45_models.md: one sample and one control update of CLAR (R322-R324). -/

namespace Sys2Proof.Machine

section
variable {s : State} {m : Clar} {fr lag : Flt} {clamp : U32}

/-- The bore's lag follows FREQ where that changed, and is a number (R322). -/
theorem Clar.retune_dirty (hf : freqOf s.ctx m.hdr (windFmax s.params.clar.fmax s.ctx) = (fr, clamp))
    (hlag : lag = s.params.fmt.sub (s.params.fmt.div (s.params.fmt.mul s.params.clar.lagFactor s.sr) fr) s.params.clar.lagOffset)
    (hready : m.hdr.dirty 1 → 0 < m.dl.cap ∧ s.params.fmt.isNaN lag = false) :
    ∃ dl w, (∀ fx, m.retune s.ctx false fx = (dl, fx.warn w))
      ∧ (m.hdr.dirty 1 → ∃ w1, w = clamp ||| w1 ∧ m.dl.setdel s.params.fmt lag = .ok w1 dl)
      ∧ (¬ m.hdr.dirty 1 → w = 0#32 ∧ dl = m.dl) := by
  simp only [Clar.retune, Hdr.changed_iff_dirty, State.ctx_f, State.ctx_p, State.ctx_sr, hf, ← hlag]
  by_cases hd : m.hdr.dirty 1
  · obtain ⟨hcap, hnum⟩ := hready hd
    obtain ⟨w1, dl, hset⟩ := Dll.setdel_ok hnum hcap
    refine ⟨dl, clamp ||| w1, fun fx => ?_, fun _ => ⟨w1, rfl, hset⟩, fun h => absurd hd h⟩
    rw [if_pos hd, hset, Fx.absorb_ok, Fx.warn_warn]
  · exact ⟨m.dl, 0, fun fx => by rw [if_neg hd, Fx.warn_none], fun h => absurd h hd, fun _ => ⟨rfl, rfl⟩⟩

end

/-- Settles O57: `exec_render_sample` for SampleStep, whose vibrato has a table; `updated_of` for the control update, whose bore takes
a lag that is a number. -/
theorem clarSample : Obligations.ClarSample := by
  refine ⟨?sample, ?update⟩
  case sample =>
    intro s n m hm hst hlen hi f p e d v b1 b2 z pd o
    refine exec_render_sample clarKit_blind clarKit_rests .clar (fun _ _ => rfl) hm hst hi
      (r := ⟨f.mul o.1 p.outGain, { m with env := e.2, ns := ⟨d.1⟩, vb := v.2.1, oz := z.2, dl := o.2 },
        { s.fx false with noise := d.2.1, free := v.2.2 }⟩) ?_
    show Clar.sample s.ctx m (s.fx false) = _
    simp only [Clar.sample, State.ctx_f, Noise.tick_fresh, Vib.tickPrivate_drawn s hlen]
    rfl
  case update =>
    intro s n m hm hu f p h c fmax fr lag hlag hvib
    obtain ⟨dl, w, htune, hdirty, hclean⟩ := Clar.retune_dirty (freqOf_wind s h p.fmax) rfl hlag
    refine ⟨dl, _, w, updated_of clarKit_blind .clar (fun _ _ => rfl) hm hu (r := { m with
      dl := dl
      env := if h.dirty 0 ∧ m.env.phase = .attack then
          { m.env with target := f.add p.breathBase (f.mul p.breathStep (f.mul (c 0) s.params.ampRscale)) }
        else m.env
      vb := if h.dirty 6 then m.vb.at s (c 6) else m.vb }) ?_, hdirty, hclean⟩
    show m.recompute s.ctx false _ = _
    simp only [Clar.recompute_eq, htune, Vib.retune_dirty (h := m.hdr) _ _ hvib, Bool.and_eq_true, Hdr.changed_iff_dirty, decide_eq_true_eq]
    rfl

end Sys2Proof.Machine

/-! PROOFS. 45_models.md: one sample and one control update of FLUTE (R332-R334). -/

namespace Sys2Proof.Machine

section
variable {s : State} {m : Flute} {fr lag : Flt} {clamp : U32}

/-- The lags of bore and jet follow FREQ and JETRATIO where one of them changed, and are numbers (R332). -/
theorem Flute.retune_dirty (hf : freqOf s.ctx m.hdr (windFmax s.params.flute.fmax s.ctx) = (fr, clamp))
    (hlag : lag = s.params.fmt.sub (s.params.fmt.div (s.params.fmt.mul (s.params.fmt.lit 3 2) s.sr) fr) s.params.flute.lagOffset)
    (hready : m.hdr.dirty 1 ∨ m.hdr.dirty 9 → 0 < m.bore.cap ∧ 0 < m.jet.cap ∧ s.params.fmt.isNaN lag = false
      ∧ s.params.fmt.isNaN (s.params.fmt.mul lag (m.hdr.ctl.get 9)) = false) :
    ∃ bore jet w, (∀ fx, m.retune s.ctx false fx = ({ m with bore := bore, jet := jet }, fx.warn w))
      ∧ (m.hdr.dirty 1 ∨ m.hdr.dirty 9 → ∃ w1 w2, w = clamp ||| w1 ||| w2 ∧ m.bore.setdel s.params.fmt lag = .ok w1 bore
        ∧ m.jet.setdel s.params.fmt (s.params.fmt.mul lag (m.hdr.ctl.get 9)) = .ok w2 jet)
      ∧ (¬ (m.hdr.dirty 1 ∨ m.hdr.dirty 9) → w = 0#32 ∧ bore = m.bore ∧ jet = m.jet) := by
  simp only [Flute.retune, Bool.or_eq_true, Hdr.changed_iff_dirty]
  by_cases hd : m.hdr.dirty 1 ∨ m.hdr.dirty 9
  · obtain ⟨hcap, hcap', hnum, hnum'⟩ := hready hd
    obtain ⟨w1, bore, hbore⟩ := Dll.setdel_ok hnum hcap
    obtain ⟨w2, jet, hjet⟩ := Dll.setdel_ok hnum' hcap'
    refine ⟨bore, jet, clamp ||| w1 ||| w2, fun fx => ?_, fun _ => ⟨w1, w2, rfl, hbore, hjet⟩, fun h => absurd hd h⟩
    rw [if_pos hd]
    simp only [Flute.tune, State.ctx_f, State.ctx_p, State.ctx_sr, hf, Fmt.lit_fifteen_tenths, ← hlag, hbore, Fx.absorb_ok, Hdr.c,
      hjet, Fx.warn_warn]
  · exact ⟨m.bore, m.jet, 0, fun fx => by rw [if_neg hd, Fx.warn_none], fun h => absurd h hd, fun _ => ⟨rfl, rfl, rfl⟩⟩

end

/-- Settles O58: `exec_render_sample` for SampleStep, whose vibrato has a table; `updated_of` for the control update, whose bore and jet
take lags that are numbers. -/
theorem fluteSample : Obligations.FluteSample := by
  refine ⟨?sample, ?update⟩
  case sample =>
    intro s n m hm hst hlen hi f p e d v b1 b2 l t j o
    refine exec_render_sample fluteKit_blind fluteKit_rests .flute (fun _ _ => rfl) hm hst hi
      (r := ⟨f.mul (f.mul p.outFactor o.1) p.outGain,
        { m with ad := e.2, ns := ⟨d.1⟩, vb := v.2.1, lp := l.2, dc := t.2, jet := j.2, bore := o.2 },
        { s.fx false with noise := d.2.1, free := v.2.2 }⟩) ?_
    show Flute.sample s.ctx m (s.fx false) = _
    simp only [Flute.sample, State.ctx_f, Noise.tick_fresh, Vib.tickPrivate_drawn s hlen]
    rfl
  case update =>
    intro s n m hm hu f p h c fmax fr lag hlag hvib
    obtain ⟨bore, jet, w, htune, hdirty, hclean⟩ := Flute.retune_dirty (freqOf_wind s h p.fmax) rfl hlag
    refine ⟨bore, jet, _, w, updated_of fluteKit_blind .flute (fun _ _ => rfl) hm hu (r := { m with
      bore := bore
      jet := jet
      maxP := if h.dirty 0 then
          f.div (f.add p.pressBase (f.mul p.pressStep (f.mul (c 0) s.params.ampRscale))) p.pressDiv
        else m.maxP
      vb := if h.dirty 6 then m.vb.at s (c 6) else m.vb }) ?_, hdirty, hclean⟩
    show m.recompute s.ctx false _ = _
    simp only [Flute.recompute_eq, htune, Vib.retune_dirty (h := m.hdr) _ _ hvib, Hdr.changed_iff_dirty]
    rfl

end Sys2Proof.Machine

/-! PROOFS. 45_models.md: one sample and one control update of BOWED (R342-R344). -/

namespace Sys2Proof.Machine

/-- A NaN lag is refused, whether the line is sized or not (40_delay_lines.md R130, R152). -/
theorem Dll.setdel_nan {f : Fmt} {lag : Flt} (hn : f.isNaN lag = true) (u : Dll) : ∃ e, u.setdel f lag = .raise 0 e := by
  rcases Nat.eq_zero_or_pos u.cap with hcap | hcap
  · exact ⟨_, require_unsized hcap _⟩
  · exact ⟨_, setLag_nan hcap hn⟩

section
variable {s : State} {m : Bowed} {fr base nutLag lag : Flt} {clamp : U32}

/-- The base period and the lags of nut and bridge follow FREQ and BETA where one of them changed; the lags are numbers (R342). -/
theorem Bowed.retune_dirty (hf : freqOf s.ctx m.hdr (windFmax s.params.bowed.fmax s.ctx) = (fr, clamp))
    (hbase : base = s.params.fmt.sub (s.params.fmt.div s.sr fr) s.params.bowed.comp)
    (hnut : nutLag = s.params.fmt.mul base (s.params.fmt.sub s.params.fmt.one (m.hdr.ctl.get 10)))
    (hready : m.hdr.dirty 1 ∨ m.hdr.dirty 10 → 0 < m.nut.cap ∧ 0 < m.bridge.cap
      ∧ s.params.fmt.isNaN (s.params.fmt.mul base (m.hdr.ctl.get 10)) = false ∧ s.params.fmt.isNaN nutLag = false) :
    ∃ nut bridge w,
      (∀ fx, m.retune s.ctx false fx =
        ({ m with
           base := if m.hdr.dirty 1 ∨ m.hdr.dirty 10 then base else m.base
           nut := nut
           bridge := bridge }, fx.warn w))
      ∧ (m.hdr.dirty 1 ∨ m.hdr.dirty 10 → ∃ w1 w2, w = clamp ||| w1 ||| w2
        ∧ m.bridge.setdel s.params.fmt (s.params.fmt.mul base (m.hdr.ctl.get 10)) = .ok w1 bridge
        ∧ m.nut.setdel s.params.fmt nutLag = .ok w2 nut)
      ∧ (¬ (m.hdr.dirty 1 ∨ m.hdr.dirty 10) → w = 0#32 ∧ nut = m.nut ∧ bridge = m.bridge) := by
  simp only [Bowed.retune, Bool.or_eq_true, Hdr.changed_iff_dirty]
  by_cases hd : m.hdr.dirty 1 ∨ m.hdr.dirty 10
  · obtain ⟨hcap, hcap', hnum, hnum'⟩ := hready hd
    obtain ⟨w1, bridge, hbridge⟩ := Dll.setdel_ok hnum hcap'
    obtain ⟨w2, nut, hset⟩ := Dll.setdel_ok hnum' hcap
    refine ⟨nut, bridge, clamp ||| w1 ||| w2, fun fx => ?_, fun _ => ⟨w1, w2, rfl, hbridge, hset⟩, fun h => absurd hd h⟩
    rw [if_pos hd, if_pos hd]
    simp only [Bowed.tune, State.ctx_f, State.ctx_p, State.ctx_sr, hf, ← hbase, Hdr.c, hbridge, Fx.absorb_ok, ← hnut, hset,
      Fx.warn_warn]
  · exact ⟨m.nut, m.bridge, 0, fun fx => by rw [if_neg hd, if_neg hd, Fx.warn_none], fun h => absurd h hd,
      fun _ => ⟨rfl, rfl, rfl⟩⟩

/-- What the vibrato of a sample leaves of the nut and of STATUS (R344): the nut takes the lag `lag`, or stays where that is a NaN. -/
theorem Bowed.vibrate_moves (hamt : s.params.fmt.eq (m.hdr.ctl.get 7) 0#64 = false) (hlen : 0 < m.vb.len)
    (hlag : lag = s.params.fmt.add (s.params.fmt.mul m.base (s.params.fmt.sub s.params.fmt.one (m.hdr.ctl.get 10)))
      (s.params.fmt.mul (s.params.fmt.mul m.base (m.hdr.ctl.get 7)) (vibStep s m.vb s.free).1)) :
    (∀ {w nut}, m.nut.setdel s.params.fmt lag = .ok w nut →
        m.vibrate s.ctx (s.fx false) =
          ({ m with vb := (vibStep s m.vb s.free).2.1, nut := nut },
            { s.fx false with warns := w, free := (vibStep s m.vb s.free).2.2 }))
      ∧ (s.params.fmt.isNaN lag = true →
        m.vibrate s.ctx (s.fx false) =
          ({ m with vb := (vibStep s m.vb s.free).2.1 }, { s.fx false with free := (vibStep s m.vb s.free).2.2 })) := by
  have hoff : s.params.fmt.eq (m.hdr.ctl.get ctlVibAmt) Flt.zero = false := hamt
  have htick : m.vb.tickPrivate s.ctx (s.fx false) =
      ((vibStep s m.vb s.free).1, (vibStep s m.vb s.free).2.1, { s.fx false with free := (vibStep s m.vb s.free).2.2 }) :=
    Vib.tickPrivate_drawn s hlen s.noiseIn s.free
  simp only [Bowed.vibrate, State.ctx_f, Hdr.c, hoff, Bool.false_eq_true, if_false, htick, ← hlag]
  refine ⟨fun hset => ?_, fun hnan => ?_⟩
  · rw [hset, Fx.absorb_ok]
    show (_, ({ s.fx false with warns := 0#32 ||| _, free := _ } : Fx)) = _
    rw [BitVec.zero_or]
  · obtain ⟨e, hset⟩ := m.nut.setdel_nan hnan
    rw [hset, Fx.absorb_raise, Fx.warn_none, Fx.raise_loop rfl]

end

/-- Settles O59: `exec_render_sample` for SampleStep, in which `Bowed.vibrate_moves` says what the vibrato does; `updated_of` for the
control update, whose nut and bridge take lags that are numbers. -/
theorem bowedSample : Obligations.BowedSample := by
  refine ⟨?sample, ?update⟩
  case sample =>
    intro s n m hm hst hi f p e l br nr dv nv nut bridge o after v lag
    have hrender {r : Bowed × Fx}
        (hv : Bowed.vibrate s.ctx { m with ad := e.2, lp := l.2, nut := nut, bridge := bridge } (s.fx false) = r) :=
      exec_render_sample (ren := .bowedRender) bowedKit_blind bowedKit_rests .bowed (fun _ _ => rfl) hm hst hi
        (r := ⟨f.mul (r.1.body.tick f r.1.bridge.last).1 p.outGain, { r.1 with body := (r.1.body.tick f r.1.bridge.last).2 }, r.2⟩)
        (by subst hv; rfl)
    have hmoves (hamt : f.eq (m.hdr.ctl.get 7) 0#64 = false) (hlen : 0 < m.vb.len) :=
      Bowed.vibrate_moves (m := { m with ad := e.2, lp := l.2, nut := nut, bridge := bridge }) (lag := lag) hamt hlen rfl
    refine ⟨fun hamt => hrender (if_pos hamt), fun hamt hlen hcap hnum => ?_, fun hamt hlen hnan =>
      hrender ((hmoves hamt hlen).2 hnan)⟩
    obtain ⟨w, nut', hset⟩ := Dll.setdel_ok (u := nut) hnum hcap
    exact ⟨w, nut', hset, hrender ((hmoves hamt hlen).1 hset)⟩
  case update =>
    intro s n m hm hu f p h c fmax fr base nutLag hlag hvib
    obtain ⟨nut, bridge, w, htune, hdirty, hclean⟩ := Bowed.retune_dirty (freqOf_wind s h p.fmax) rfl rfl hlag
    refine ⟨nut, bridge, _, w, updated_of bowedKit_blind .bowed (fun _ _ => rfl) hm hu (r := { m with
      nut := nut
      bridge := bridge
      base := if h.dirty 1 ∨ h.dirty 10 then base else m.base
      bw := if h.dirty 9 then ⟨f.sub p.slopeBase (f.mul p.slopeStep (c 9))⟩ else m.bw
      maxVel := if h.dirty 0 then f.add p.velBase (f.mul p.velStep (f.mul (c 0) s.params.ampRscale)) else m.maxVel
      vb := if h.dirty 6 then m.vb.at s (c 6) else m.vb }) ?_, hdirty, hclean⟩
    show m.recompute s.ctx false _ = _
    simp only [Bowed.recompute_eq, htune, Vib.retune_dirty (h := m.hdr) _ _ hvib, Hdr.changed_iff_dirty]
    rfl

end Sys2Proof.Machine

/-! PROOFS. 45_models.md: one sample and one control update of BRASS (R349-R351). -/

namespace Sys2Proof.Machine

section
variable {s : State} {m : Brass} {fr lag lipHz : Flt} {clamp : U32}

/-- The bore's lag follows FREQ where that changed, and is a number (R350). -/
theorem Brass.slide_dirty (hready : m.hdr.dirty 1 → 0 < m.bore.cap ∧ s.params.fmt.isNaN lag = false) :
    ∃ bore w1,
      (∀ fx : Fx, (if m.hdr.dirty 1 then fx.absorb m.bore (m.bore.setdel s.params.fmt lag) else (m.bore, fx)) = (bore, fx.warn w1))
      ∧ (m.hdr.dirty 1 → m.bore.setdel s.params.fmt lag = .ok w1 bore) ∧ (¬ m.hdr.dirty 1 → w1 = 0#32 ∧ bore = m.bore) := by
  by_cases hd : m.hdr.dirty 1
  · obtain ⟨hcap, hnum⟩ := hready hd
    obtain ⟨w1, bore, hset⟩ := Dla.setdel_ok hnum hcap
    exact ⟨bore, w1, fun fx => by rw [if_pos hd, hset, Fx.absorb_ok], fun _ => hset, fun h => absurd hd h⟩
  · exact ⟨m.bore, 0, fun fx => by rw [if_neg hd, Fx.warn_none], fun h => absurd h hd, fun _ => ⟨rfl, rfl⟩⟩

/-- The lip follows FREQ and LIPTENSION where one of them changed, the bore's lag FREQ alone (R350). -/
theorem Brass.retune_dirty (hf : freqOf s.ctx m.hdr (windFmax s.params.brass.fmax s.ctx) = (fr, clamp))
    (hlag : lag = s.params.fmt.add (s.params.fmt.mul (s.params.fmt.div s.sr fr) s.params.brass.lagFactor) s.params.brass.lagOffset)
    (hlip : Brass.lipFreq s.ctx fr m = lipHz)
    (hbore : m.hdr.dirty 1 → 0 < m.bore.cap ∧ s.params.fmt.isNaN lag = false)
    (hready : m.hdr.dirty 1 ∨ m.hdr.dirty 9 → s.params.fmt.lt 0#64 s.sr = true ∧ s.params.fmt.isFinite lipHz = true
      ∧ s.params.fmt.isFinite s.params.brass.lipR = true) :
    ∃ bore w1,
      (∀ fx, m.retune s.ctx false fx =
        ({ m with
           bore := bore
           lip := if m.hdr.dirty 1 ∨ m.hdr.dirty 9 then
               { m.lip with
                 p0 := s.params.fmt.mul (s.params.fmt.mul (s.params.fmt.lit 2 1) s.params.brass.lipR)
                   (s.params.fmt.cos s.params.libm (s.params.fmt.div (s.params.fmt.mul s.params.fmt.twoPi lipHz) s.sr))
                 p1 := s.params.fmt.neg (s.params.fmt.mul s.params.brass.lipR s.params.brass.lipR) }
             else m.lip },
          fx.warn ((if m.hdr.dirty 1 ∨ m.hdr.dirty 9 then clamp else 0#32) ||| w1)))
      ∧ (m.hdr.dirty 1 → m.bore.setdel s.params.fmt lag = .ok w1 bore) ∧ (¬ m.hdr.dirty 1 → w1 = 0#32 ∧ bore = m.bore) := by
  obtain ⟨bore, w1, hslide, hdirty, hclean⟩ := Brass.slide_dirty hbore
  refine ⟨bore, w1, fun fx => ?_, hdirty, hclean⟩
  simp only [Brass.retune, Bool.or_eq_true, Hdr.changed_iff_dirty]
  by_cases hd : m.hdr.dirty 1 ∨ m.hdr.dirty 9
  · obtain ⟨hsr, hhz, hrad⟩ := hready hd
    have hset := Biq.setfr_ok (c := s.ctx) m.lip hsr hhz hrad
    simp only [State.ctx_f, State.ctx_p, State.ctx_sr] at hset
    simp only [if_pos hd, Brass.tune, Hdr.changed_iff_dirty, State.ctx_f, State.ctx_p, State.ctx_sr, hf, ← hlag, hslide, hlip, hset,
      Fx.absorb_done, Fx.warn_warn]
  · obtain ⟨rfl, rfl⟩ := hclean fun h => hd (.inl h)
    simp only [if_neg hd, BitVec.or_zero]
    rw [show fx.warn 0#32 = fx from fx.warn_none]

end

/-- Settles O60: `exec_render_sample` for SampleStep, whose vibrato has a table; `updated_of` for the control update, in which
`Brass.retune_dirty` keeps the bore apart from the lip. -/
theorem brassSample : Obligations.BrassSample := by
  refine ⟨?sample, ?update⟩
  case sample =>
    intro s n m hm hst hlen hi f p e v b mouth bp q area t o
    refine exec_render_sample brassKit_blind brassKit_rests .brass (fun _ _ => rfl) hm hst hi
      (r := ⟨f.mul o.1 p.outGain, { m with ad := e.2, vb := v.2.1, lip := q.2, dc := t.2, bore := o.2 },
        { s.fx false with free := v.2.2 }⟩) ?_
    show Brass.sample s.ctx m (s.fx false) = _
    simp only [Brass.sample, Vib.tickPrivate_eq s m.vb (s.fx false) hlen rfl]
    rfl
  case update =>
    intro s n m hm hu f p h c fmax fr lag lipHz hlag hlip hvib
    obtain ⟨bore, w1, htune, hdirty, hclean⟩ := Brass.retune_dirty (freqOf_wind s h p.fmax) rfl rfl hlag hlip
    refine ⟨bore, _, _, w1, updated_of brassKit_blind .brass (fun _ _ => rfl) hm hu (r := { m with
      bore := bore
      lip := if h.dirty 1 ∨ h.dirty 9 then
          { m.lip with
            p0 := f.mul (f.mul (f.lit 2 1) p.lipR) (f.cos s.params.libm (f.div (f.mul f.twoPi lipHz) s.sr))
            p1 := f.neg (f.mul p.lipR p.lipR) }
        else m.lip
      maxP := if h.dirty 0 then f.mul (c 0) s.params.ampRscale else m.maxP
      vb := if h.dirty 6 then m.vb.at s (c 6) else m.vb }) ?_, rfl, hdirty, hclean⟩
    show m.recompute s.ctx false _ = _
    simp only [Brass.recompute_eq, htune, Vib.retune_dirty (h := m.hdr) _ _ hvib, Hdr.changed_iff_dirty]
    rfl

end Sys2Proof.Machine

/-! PROOFS. 45_models.md: one sample and one control update of BAR (R304, R306-R310). -/

namespace Sys2Proof.Machine

section
variable {s : State} {fr : Flt}

/-! ### The branches (R306, R307) -/

/-- The pole radius of a branch tuned to `fr` (R306). -/
def barRadius (s : State) (fr ratio : Flt) : Flt :=
  s.params.fmt.sub s.params.fmt.one
    (s.params.fmt.div (s.params.fmt.mul (s.params.fmt.mul fr ratio) s.params.fmt.pi) s.sr)

/-- The lag of a branch tuned to `fr` (R306). -/
def barLag (s : State) (fr ratio : Flt) : Flt := s.params.fmt.div (s.params.fmt.div s.sr fr) ratio

/-- A branch that takes the frequency `fr`: its line is sized, and its lag, its frequency and its pole radius are numbers. -/
def Branch.Tunable (s : State) (fr ratio : Flt) (b : Branch) : Prop :=
  0 < b.d.cap ∧ s.params.fmt.isNaN (barLag s fr ratio) = false
    ∧ s.params.fmt.isFinite (s.params.fmt.mul fr ratio) = true ∧ s.params.fmt.isFinite (barRadius s fr ratio) = true

/-- `b'` is the branch `b` with its line and its biquad tuned to `fr` (R306), `w` the warning of its lag. -/
def Branch.Tuned (s : State) (fr ratio : Flt) (b b' : Branch) (w : U32) : Prop :=
  let f := s.params.fmt
  let rad := barRadius s fr ratio
  b.d.setdel f (barLag s fr ratio) = .ok w b'.d
    ∧ b'.q = ⟨f.mul (f.mul (f.lit 2 1) rad) (f.cos s.params.libm (f.div (f.mul f.twoPi (f.mul fr ratio)) s.sr)),
        f.neg (f.mul rad rad), 0#64, f.lit (-1) 1, f.div (f.sub f.one (f.mul rad rad)) (f.lit 2 1), 0#64, 0#64, 0#64, 0#64⟩

/-- The tuning of a branch does not read KR, so `Branch.tune_ok` is taken in a state where KR is set as SR is. -/
theorem Branch.tune_tunable {ratio : Flt} {b : Branch} (hsr : s.params.fmt.lt 0#64 s.sr = true) (h : b.Tunable s fr ratio) :
    ∃ b' w, (∀ fx, b.tune s.ctx fr ratio fx = (b', fx.warn w)) ∧ b.Tuned s fr ratio b' w ∧ b'.gain = b.gain := by
  obtain ⟨hcap, hlag, hhz, hrad⟩ := h
  obtain ⟨w, d, hset⟩ := Dln.setdel_ok hlag hcap
  exact ⟨_, w, fun _ => Branch.tune_ok (s := { s with kr := s.sr }) rfl hset ⟨hsr, hsr⟩ hhz hrad, ⟨hset, rfl⟩, rfl⟩

/-- The mode gain of a branch follows POSITION where that changed (R307). -/
def Branch.placed (s : State) (h : Hdr) (ratio : Flt) (b : Branch) : Branch :=
  { b with
    gain := if h.dirty 10 then
        s.params.fmt.abs (s.params.fmt.sin s.params.libm (s.params.fmt.mul (s.params.fmt.mul s.params.fmt.pi (h.ctl.get 10)) ratio))
      else b.gain }

theorem Branch.placed_gain (h : Hdr) (ratio : Flt) {b b' : Branch} (hg : b'.gain = b.gain) :
    (b'.placed s h ratio).gain = (b.placed s h ratio).gain := by
  rw [Branch.placed, Branch.placed, hg]

theorem Bar.place_dirty (h : Hdr) (m : Bar) :
    (if h.dirty 10 then (m.place s.ctx (h.c ctlPosition)).k else m.k) =
      ⟨m.k.k0.placed s h (s.params.fmt.lit 1 1), m.k.k1.placed s h (s.params.fmt.lit 2756 1000),
        m.k.k2.placed s h (s.params.fmt.lit 5404 1000), m.k.k3.placed s h (s.params.fmt.lit 8933 1000)⟩ := by
  by_cases hd : h.dirty 10
  · simp only [Branch.placed, if_pos hd]
    rfl
  · simp only [Branch.placed, if_neg hd]

/-- The branches follow FREQ where that changed (R306); their gains do not. -/
theorem Bar.retune_dirty {m : Bar} {clamp : U32} (hf : freqOf s.ctx m.hdr (barFmax s.ctx) = (fr, clamp))
    (hready : m.hdr.dirty 1 → s.params.fmt.lt 0#64 s.sr = true ∧ m.k.k0.Tunable s fr (s.params.fmt.lit 1 1)
      ∧ m.k.k1.Tunable s fr (s.params.fmt.lit 2756 1000) ∧ m.k.k2.Tunable s fr (s.params.fmt.lit 5404 1000)
      ∧ m.k.k3.Tunable s fr (s.params.fmt.lit 8933 1000)) :
    ∃ k w, (∀ fx, m.retune s.ctx false fx = ({ m with k := k }, fx.warn w))
      ∧ (m.hdr.dirty 1 → ∃ w0 w1 w2 w3, w = clamp ||| w0 ||| w1 ||| w2 ||| w3
        ∧ m.k.k0.Tuned s fr (s.params.fmt.lit 1 1) k.k0 w0 ∧ m.k.k1.Tuned s fr (s.params.fmt.lit 2756 1000) k.k1 w1
        ∧ m.k.k2.Tuned s fr (s.params.fmt.lit 5404 1000) k.k2 w2 ∧ m.k.k3.Tuned s fr (s.params.fmt.lit 8933 1000) k.k3 w3)
      ∧ (¬ m.hdr.dirty 1 → w = 0#32 ∧ k = m.k)
      ∧ k.k0.gain = m.k.k0.gain ∧ k.k1.gain = m.k.k1.gain ∧ k.k2.gain = m.k.k2.gain ∧ k.k3.gain = m.k.k3.gain := by
  simp only [Bar.retune, Hdr.changed_iff_dirty, hf]
  by_cases hd : m.hdr.dirty 1
  · obtain ⟨hsr, ht0, ht1, ht2, ht3⟩ := hready hd
    obtain ⟨b0, w0, h0, hb0, hg0⟩ := Branch.tune_tunable hsr ht0
    obtain ⟨b1, w1, h1, hb1, hg1⟩ := Branch.tune_tunable hsr ht1
    obtain ⟨b2, w2, h2, hb2, hg2⟩ := Branch.tune_tunable hsr ht2
    obtain ⟨b3, w3, h3, hb3, hg3⟩ := Branch.tune_tunable hsr ht3
    refine ⟨⟨b0, b1, b2, b3⟩, clamp ||| w0 ||| w1 ||| w2 ||| w3, fun fx => ?_, fun _ => ⟨w0, w1, w2, w3, rfl, hb0, hb1, hb2, hb3⟩,
      fun h => absurd hd h, hg0, hg1, hg2, hg3⟩
    simp only [if_pos hd, Bar.tune_ok h0 h1 h2 h3, Fx.warn_warn, BitVec.or_assoc]
  · exact ⟨m.k, 0, fun fx => by rw [if_neg hd, Fx.warn_none], fun h => absurd h hd, fun _ => ⟨rfl, rfl⟩, rfl, rfl, rfl, rfl⟩

/-! ### The bow drive (R310; log 30) -/

theorem Bar.drive_eq (m : Bar) :
    let f := s.params.fmt
    let track := !f.eq (m.hdr.iCtl.get 12) 0#64
    Bar.drive s.ctx m =
      { m with
        ad := if track then m.ad else (m.ad.tick f).2
        bowVel := if track then f.add (f.mul m.bowVel s.params.bar.velDecay) m.bowTarg else f.mul (m.ad.tick f).1 m.maxVel
        bowTarg := if track then f.mul m.bowTarg s.params.bar.targDecay else m.bowTarg } := by
  intro f track
  have htrack : s.params.fmt.eq (m.hdr.ci ctlTrackVel) Flt.zero = !track := (Bool.not_not _).symm
  simp only [Bar.drive, State.ctx_f, htrack]
  cases track <;> rfl

end

/-- Settles O56: `exec_render_sample` for SampleStep, with both bow drives of `Bar.drive_eq`; `updated_of` for the control update, in
which `Bar.retune_dirty` tunes the branches and `Bar.place_dirty` sets their gains. -/
theorem barSample : Obligations.BarSample := by
  refine ⟨?sample, ?update⟩
  case sample =>
    intro s n m hm hst hi f p fb est track vel x branch out
    refine exec_render_sample barKit_blind barKit_rests .bar (fun _ _ => rfl) hm hst hi
      (r := ⟨f.mul out p.outGain,
        { m with
          k := ⟨(branch m.k.k0).2, (branch m.k.k1).2, (branch m.k.k2).2, (branch m.k.k3).2⟩
          ad := if track then m.ad else (m.ad.tick f).2
          bowVel := vel
          bowTarg := if track then f.mul m.bowTarg p.targDecay else m.bowTarg
          vEst := est }, s.fx false⟩) ?_
    show Bar.sample s.ctx m (s.fx false) = _
    simp only [Bar.sample, Bar.drive_eq]
    rfl
  case update =>
    intro s n m hm hu f p h c fr rad r0 r1 r2 r3 settable hready tuned gain
    obtain ⟨k, w, htune, hdirty, hclean, hg0, hg1, hg2, hg3⟩ := Bar.retune_dirty (freqOf_ctx s h (f.lit 1568 1)) hready
    refine ⟨_, w, updated_of barKit_blind .bar (fun _ _ => rfl) hm hu (r := { m with
      k := ⟨k.k0.placed s h r0, k.k1.placed s h r1, k.k2.placed s h r2, k.k3.placed s h r3⟩
      bw := if h.dirty 9 then ⟨f.sub p.slopeBase (f.mul p.slopeStep (c 9))⟩ else m.bw
      maxVel := if h.dirty 0 then f.add p.velBase (f.mul p.velStep (f.mul (c 0) s.params.ampRscale)) else m.maxVel
      bowTarg := if h.dirty 11 then f.add m.bowTarg (f.mul p.targStep (f.sub (c 11) m.lastTP)) else m.bowTarg
      lastTP := if h.dirty 11 then c 11 else m.lastTP }) ?_, hdirty, fun hd => ?_, Branch.placed_gain h r0 hg0,
      Branch.placed_gain h r1 hg1, Branch.placed_gain h r2 hg2, Branch.placed_gain h r3 hg3, rfl, rfl, rfl, rfl, rfl, rfl, rfl⟩
    · show m.recompute s.ctx false _ = _
      simp only [Bar.recompute_eq, htune, Hdr.changed_iff_dirty]
      rw [Bar.place_dirty m.hdr { m with k := k }]
      rfl
    · obtain ⟨hw, rfl⟩ := hclean hd
      exact ⟨hw, rfl, rfl, rfl, rfl⟩

end Sys2Proof.Machine

/-! PROOFS. 60_exceptions.md: no command and no step stops (R360). -/

namespace Sys2Proof.Machine

/-! ### Every shape of a command answers a next state -/

section
variable {α : Type} {bank : List α} {put : State → List α → State} {n : Nat} {s : State}

theorem unitRead_continues {out : α → Flt} : ∃ t, unitRead bank n s out = .next t := by
  unfold unitRead
  split
  · exact ⟨s.illegal, rfl⟩
  · exact ⟨_, rfl⟩

theorem unitSet_continues {op : α → Res α} : ∃ t, unitSet bank put n s op = .next t := by
  unfold unitSet
  split
  · exact ⟨s.illegal, rfl⟩
  · split <;> exact ⟨_, rfl⟩

theorem unitTick_continues {op : α → Res (Flt × α)} : ∃ t, unitTick bank put n s op = .next t := by
  unfold unitTick
  split
  · exact ⟨s.illegal, rfl⟩
  · split <;> exact ⟨_, rfl⟩

/-- A setter that refuses nothing. -/
theorem update_continues {g : α → α} : ∃ t, unitSet bank put n s (fun u => .ok 0 (g u)) = .next t := unitSet_continues

/-- A tick that refuses nothing. -/
theorem sample_continues {g : α → Flt × α} : ∃ t, unitTick bank put n s (fun u => .ok 0 (g u)) = .next t :=
  unitTick_continues

theorem unitDraw_continues {op : α → Fx → Res (Flt × α × Fx)} : ∃ t, unitDraw bank put n s op = .next t := by
  unfold unitDraw
  split
  · exact ⟨s.illegal, rfl⟩
  · split <;> exact ⟨_, rfl⟩

theorem modelInit_continues {k : ModelKit α} : ∃ t, modelInit k bank put n s = .next t := by
  unfold modelInit
  split
  · exact ⟨s.illegal, rfl⟩
  · split <;> exact ⟨_, rfl⟩

theorem modelRender_continues {k : ModelKit α} : ∃ t, modelRender k bank put n s = .next t :=
  ⟨_, modelRender_answer k bank put n s⟩

end

/-! ### Commands, words and steps -/

/-- `sys.setctx` refuses its operands or stores A0 (43_tables_noise_vibrato.md R263). -/
theorem execSysSetctx_continues (s : State) : ∃ t, execSysSetctx s = .next t := by
  unfold execSysSetctx
  split
  · exact ⟨s.abandon 0 errOperand, rfl⟩
  · split
    · exact ⟨s.abandon 0 errOperand, rfl⟩
    · split <;> exact ⟨_, rfl⟩

/-- Each command has one of the shapes above, with whatever rule its unit has. -/
theorem exec_continues (i : Instr) (s : State) : ∃ t, exec i s = .next t := by
  cases i with
  | sysNop | sysClrstat | sysSreset => exact ⟨_, rfl⟩
  | sysSetctx => exact execSysSetctx_continues s
  | dlnLast n | dlaLast n | dllLast n | biqLast n | opoleLast n | ozeroLast n | dcbLast n | adsrLast n | envLast n
  | bowLookup n | reedLookup n | jetLookup n | noiseLast n | vibLast n => exact unitRead_continues
  | dlnCfg n | dlnSetdel n | dlaCfg n | dlaSetdel n | dllCfg n | dllSetdel n | biqSetfr n
  | adsrSettimes n | adsrSetatk n | adsrSetrel n | envSetrate n | vibSettab n | vibSetfreq n
  | barSetctl n | barRelease n | clarSetctl n | clarRelease n | fluteSetctl n | fluteRelease n
  | bowedSetctl n | bowedRelease n | brassSetctl n | brassRelease n => exact unitSet_continues
  | biqSetegz n | biqSetgain n | biqClear n | opoleSetgain n | opoleSetcoef n | ozeroSetgain n | ozeroSetcoef n
  | adsrSettarget n | adsrKeyon n | adsrKeyoff n | envSettarget n | envKeyon n | envKeyoff n
  | bowSetslope n | reedSetoffset n | reedSetslope n => exact update_continues
  | dlnTick n | dlaTick n | dllTick n => exact unitTick_continues
  | biqTick n | opoleTick n | ozeroTick n | dcbTick n | adsrTick n | envTick n => exact sample_continues
  | noiseTick n => exact unitDraw_continues (op := fun (u : Noise) fx => .ok 0 (u.tick s.params.fmt fx))
  | vibTick n => exact unitDraw_continues
  | barInit n | clarInit n | fluteInit n | bowedInit n | brassInit n => exact modelInit_continues
  | barRender n | clarRender n | fluteRender n | bowedRender n | brassRender n => exact modelRender_continues

/-- A word written to CMD is a command or is abandoned as illegal (30_encoding.md R107). -/
theorem issue_continues (w : U32) (s : State) : ∃ t, issue w s = .next t := by
  by_cases hdec : ∃ i, decode w = .ok i
  · obtain ⟨i, hi⟩ := hdec
    exact issue_of_decode hi s ▸ exec_continues i s
  · exact ⟨s.illegal, issue_of_not_decodes hdec s⟩

/-- The block is idle, or the next host write reaches it: a word in CMD is issued, any other write only lands (10_state.md R32; R380). -/
theorem step_continues (s : State) : ∃ t, step s = .next t := by
  cases hp : s.pending with
  | nil => exact ⟨s, step_of_idle hp⟩
  | cons hw rest =>
    cases hw with
    | cmd w => exact step_cmd hp ▸ issue_continues w _
    | _ => exact ⟨_, step_hostWrite hp nofun⟩

/-- Settles O7: a command stops in none of the shapes of `exec_continues`, and a step issues at most one command. -/
theorem nothingStops : Obligations.NothingStops := ⟨exec_continues, step_continues⟩

end Sys2Proof.Machine

/-! PROOFS. 70_reset_and_hazards.md: the values of reset and of the reset input (R390), and that no command writes its operands
(R395). -/

namespace Sys2Proof.Machine

/-! ### The number of instances of a class (log 3) -/

theorem State.SameBanks.sameCounts {s t : State} (h : s.SameBanks t) : s.SameCounts t := by
  obtain ⟨hu, hm⟩ := h
  intro cls
  unfold State.instances
  rw [hu, hm]

section
variable {cls n : Nat} {α : Type} {get : State → List α} {put : State → List α → State} {s t : State}

theorem IsBank.instances_eq (hb : IsBank cls get put) (s : State) : s.instances cls = (get s).length := by cases hb <;> rfl

/-- A write to the bank of one class keeps the banks of the others. -/
theorem IsBank.put_instances_of_ne (hb : IsBank cls get put) (b : List α) {c : Nat} (hc : c ≠ cls) :
    (put s b).instances c = s.instances c := by
  cases hb <;> (unfold State.instances; split) <;> trivial

theorem IsBank.set_sameCounts (hb : IsBank cls get put) (u : α) : s.SameCounts (put s ((get s).set n u)) := by
  intro c
  by_cases hc : c = cls
  · rw [hc, hb.instances_eq, hb.instances_eq, hb.get_put, List.length_set]
  · exact hb.put_instances_of_ne _ hc

theorem ChangesAtMost.sameCounts (h : ChangesAtMost cls n s t) : s.SameCounts t := by
  cases h with
  | kept h => exact h.sameCounts
  | replaced hb u h => exact fun c => (h.sameCounts c).trans (hb.set_sameCounts u c)

end

/-- A command replaces at most one instance, and `sys.sreset` resets all of them in place. -/
theorem exec_sameCounts {i : Instr} {s t : State} (h : exec i s = .next t) : s.SameCounts t := by
  by_cases hi : i = .sysSreset
  · subst hi
    cases h
    exact s.softReset_sameCounts
  · exact (exec_changes h hi).sameCounts

/-! ### Commands and their operands (R395) -/

/-- No outcome of a command touches the operands, CMD, or what is fixed or the host's to write. -/
theorem Effect.operands {i : Instr} {s t : State} (h : Effect i s t) :
    t.a0 = s.a0 ∧ t.a1 = s.a1 ∧ t.a2 = s.a2 ∧ t.a3 = s.a3 ∧ t.iarg = s.iarg
      ∧ t.cmd = s.cmd ∧ t.params = s.params ∧ t.tables = s.tables ∧ t.pending = s.pending := by
  cases h <;> exact ⟨rfl, rfl, rfl, rfl, rfl, rfl, rfl, rfl, rfl⟩

/-- Settles O12: `Effect.operands` for the registers and the host's side, `exec_sameCounts` for the banks. -/
theorem noCommandWritesOperands : Obligations.NoCommandWritesOperands := by
  intro i s t h
  obtain ⟨ha0, ha1, ha2, ha3, hiarg, hcmd, hparams, htables, hpending⟩ := (exec_runs h).effect.operands
  exact ⟨ha0, ha1, ha2, ha3, hiarg, hcmd, hparams, htables, hpending, exec_sameCounts h⟩

/-! ### Reset (R390) -/

/-- Fresh banks are banks that a reset leaves as they are. -/
theorem Units.resetAll_ofCount (f : Fmt) (n : Counts) : (Units.ofCount f n).resetAll f = Units.ofCount f n := by
  simp [Units.resetAll, Units.ofCount]

theorem Models.resetAll_ofCount (f : Fmt) (n : Counts) : (Models.ofCount f n).resetAll f = Models.ofCount f n := by
  simp [Models.resetAll, Models.ofCount]

theorem Units.ofCount_atReset (f : Fmt) (n : Counts) : (Units.ofCount f n).AtReset f :=
  Units.resetAll_ofCount f n ▸ Units.resetAll_atReset f _

theorem Models.ofCount_atReset (f : Fmt) (n : Counts) : (Models.ofCount f n).AtReset f :=
  Models.resetAll_ofCount f n ▸ Models.resetAll_atReset f _

/-- Settles O18: the registers are written out in `State.resetWith`, and the banks are fresh. -/
theorem resetState : Obligations.ResetState :=
  ⟨rfl, rfl, rfl, rfl, rfl, rfl, rfl, rfl, rfl, rfl, Units.ofCount_atReset _ _, Models.ofCount_atReset _ _⟩

theorem Models.resetAll_iNotRead (f : Fmt) (m : Models) : (m.resetAll f).INotRead where
  bar := forall_mem_bank _ Hdr.reset_iCtl
  clar := forall_mem_bank _ Hdr.reset_iCtl
  flute := forall_mem_bank _ Hdr.reset_iCtl
  bowed := forall_mem_bank _ Hdr.reset_iCtl
  brass := forall_mem_bank _ Hdr.reset_iCtl

/-- The reset input does to the banks what `sys.sreset` does. -/
theorem State.hardReset_sameBanks (s : State) : s.softReset.SameBanks s.hardReset := ⟨rfl, rfl⟩

theorem State.hardReset_sameCounts (s : State) : s.SameCounts s.hardReset := fun cls =>
  (s.hardReset_sameBanks.sameCounts cls).trans (s.softReset_sameCounts cls)

/-- Settles O21: the step is `State.hardReset` of the state without the reset write. -/
theorem resetInputRestoresResetValues : Obligations.ResetInputRestoresResetValues := fun s rest hp =>
  ⟨State.hardReset { s with pending := rest }, step_hostWrite hp nofun, Units.resetAll_atReset _ _, Models.resetAll_atReset _ _,
    Models.resetAll_iNotRead _ _, State.hardReset_sameCounts { s with pending := rest }, rfl⟩

end Sys2Proof.Machine
